-- ==== Sys2Proof/Word.lean ====
section
/-! DEFINITION. The word types of the two devices: every datum is one byte and every address 32 bits
(00_scope.md R2), the timer's counter and compare registers are 16 bits (10_state.md R19, R20, R21), and an
operation's transaction word is 10 bits (30_encoding.md R50). -/

namespace Sys2Proof

/-- One byte, the width of every datum (R2). -/
abbrev Byte := BitVec 8

/-- A 16-bit timer register: counter, compareA or compareB (R19, R20, R21). -/
abbrev Half := BitVec 16

/-- A bus address (R2). -/
abbrev Addr := BitVec 32

/-- A transaction word (R50). -/
abbrev TWord := BitVec 10

end Sys2Proof
end

