-- ==== Sys2Proof/Config.lean ====
section
/-! DEFINITION. What the spec fixes as a constant, what it leaves to construction (00_scope.md section 3), and the free
values. The construction parameters are plain data: the machine's State carries them, so a statement about every state
ranges over every legal choice of them. -/

namespace Sys2Proof

/-- The construction parameters of one serial instance (00_scope.md R7). -/
structure SciParams where
  /-- SCI_BASE[k] -/
  base : Addr
  /-- SCI_IRQ_OFFSET[k] -/
  irqOffset : Nat
  deriving DecidableEq, Repr

/-- The OPEN parameters of 00_scope.md section 3 (R6, R7, R8; 92 D6, D7, D9, D10, D11). -/
structure Params where
  /-- TMR_BASE (R6) -/
  tmrBase : Addr
  /-- one entry per serial instance; the length is N_SCI (R7) -/
  sci : List SciParams
  /-- SCI_CLOCK_TIME, in cycles (R8) -/
  clockTime : Int
  /-- SCI_TX_SENTINEL (R8) -/
  sentinel : Byte
  /-- CYCLE0, the cycle value at construction (D11) -/
  cycle0 : Nat
  deriving DecidableEq, Repr

/-- The constraints 00_scope.md puts on the parameters: R6 (the timer window does not wrap), R7 (1 to 8 instances, bases
multiples of 8, windows pairwise disjoint), R8 (clock time at least 1, sentinel not 0x55). -/
abbrev Params.legal (p : Params) : Prop :=
  p.tmrBase.toNat ≤ 0xFFFFFFC0 ∧
  1 ≤ p.sci.length ∧ p.sci.length ≤ 8 ∧
  (∀ q ∈ p.sci, q.base.toNat % 8 = 0 ∧
    (q.base.toNat + 7 < p.tmrBase.toNat ∨ p.tmrBase.toNat + 0x3F < q.base.toNat)) ∧
  (p.sci.Pairwise fun q r => q.base ≠ r.base) ∧
  1 ≤ p.clockTime ∧ p.sentinel ≠ 0x55

/-- CCLR_ON_A: the "clear on A" pattern of TCR bits 6:5 (R15, D13). -/
def Config.cclrOnA : BitVec 2 := 0b01

/-- CCLR_ON_B: the "clear on B" pattern of TCR bits 6:5 (R15, D13). -/
def Config.cclrOnB : BitVec 2 := 0b10

/-- FREE VALUE: what a byte of the timer's scratch region holds at construction (R23, D19: drawn freely). Nothing can
evaluate it. notes/assumptions/5.md. -/
opaque Config.scratchDraw : Nat → Byte

/-- FREE VALUE: what raw byte `off` of serial instance `k` holds at construction (R29, D19: drawn freely). Nothing can
evaluate it. notes/assumptions/5.md. -/
opaque Config.rawDraw : (k off : Nat) → Byte

/-- DESIGN CHOICE, unsafe (notes/assumptions/4.md): the parameters that `State.reset` is constructed with. The spec leaves
every one of them open. The values are the examples of 92 D33, with the pattern of its two instances carried on to eight, so that
every word of the serial and host rows names an instance. -/
def Config.params : Params where
  tmrBase := 0x00FFFF60
  sci := (List.range 8).map fun k => { base := BitVec.ofNat 32 (0x00FFFFB0 + 8 * k), irqOffset := 4 * k }
  clockTime := 200
  sentinel := 0xFF
  cycle0 := 0

end Sys2Proof
end

