-- ==== Sys2Proof/Syntax.lean ====
section
/-! DEFINITION. The syntax: the registers an offset selects (20_memory.md R36, R39), the transactions the driver issues
(30_encoding.md R50, R54), one instruction per row of the opcode table, the driver's operations with their full address (R54, R55),
and the syntax lines with the pseudo-operations (R58, R59). -/

namespace Sys2Proof

/-- The ten byte registers of a timer channel's block, in the order of their block offsets 0 to 9 (R36). -/
inductive ChanReg where
  | tcr | tior | tier | tsr | tcntH | tcntL | graH | graL | grbH | grbL
  deriving DecidableEq, Repr

/-- What an offset of the timer window selects (R36). The scratch offsets come in the three groups that the opcode table gives rows:
0x2C..0x2F, 0x30..0x31 and 0x3C..0x3F. -/
inductive TmrReg where
  | tstr | tsnc | tmdr | tfcr
  | chan (i : Fin 5) (r : ChanReg)
  | scratch2C (j : Fin 4)
  | scratch30 (j : Fin 2)
  | scratch3C (j : Fin 4)
  deriving DecidableEq, Repr

/-- What an offset of a serial window selects (R39): raw offsets 0, 1 and 6, 7 in the table's two groups. -/
inductive SciReg where
  | scr | tdr | ssr | rdr
  | raw01 (j : Fin 2)
  | raw67 (j : Fin 2)
  deriving DecidableEq, Repr

/-- One operation as it is encoded: the transaction word and the operands carried beside it (R54). An operation that has no such
operand ignores the field. -/
structure Transaction where
  word : TWord
  /-- the data byte of a write -/
  d : Byte
  /-- the cycle value of a tick -/
  c : Nat
  /-- the bytes of a send -/
  bs : List Byte
  deriving DecidableEq, Repr

/-- Why a transaction word names no operation (R57). -/
inductive Reserved where
  /-- class 0b11 -/
  | class3
  /-- a class 0b01 word with bit 7 clear -/
  | sciBit7Clear
  /-- a serial word whose k is not below N_SCI -/
  | noSuchSci (k : Fin 8)
  /-- a class 0b10 word with bits 7:6 not 0b00 -/
  | hostBits76
  /-- a class 0b10 word with bit 2 set (op 0b1xx) -/
  | hostOp
  /-- a timer tick with k not 0 -/
  | timerTickK (k : Fin 8)
  deriving DecidableEq, Repr

/-- The operations of the two devices: one constructor per row of the opcode table. `d` is the data byte of a write, `k` the
serial instance, `j` the index inside a scratch or raw group, `c` the cycle value of a tick, `bs` the bytes of a send (R54). -/
inductive Instr where
  /-- `RD TMR, @<out-of-window>` (R73) -/
  | rdTmrOut
  /-- `WR TMR, @<out-of-window>, d` (R74) -/
  | wrTmrOut (d : Byte)
  /-- `RD TMR, TSTR` (R76) -/
  | rdTmrTstr
  /-- `WR TMR, TSTR, d` (R77) -/
  | wrTmrTstr (d : Byte)
  /-- `RD TMR, TSNC` (R78) -/
  | rdTmrTsnc
  /-- `WR TMR, TSNC, d` (R79) -/
  | wrTmrTsnc (d : Byte)
  /-- `RD TMR, TMDR` (R80) -/
  | rdTmrTmdr
  /-- `WR TMR, TMDR, d` (R81) -/
  | wrTmrTmdr (d : Byte)
  /-- `RD TMR, TFCR` (R82) -/
  | rdTmrTfcr
  /-- `WR TMR, TFCR, d` (R83) -/
  | wrTmrTfcr (d : Byte)
  /-- `RD TMR, TCR0` (R84) -/
  | rdTmrTcr0
  /-- `WR TMR, TCR0, d` (R85) -/
  | wrTmrTcr0 (d : Byte)
  /-- `RD TMR, TIOR0` (R86) -/
  | rdTmrTior0
  /-- `WR TMR, TIOR0, d` (R87) -/
  | wrTmrTior0 (d : Byte)
  /-- `RD TMR, TIER0` (R88) -/
  | rdTmrTier0
  /-- `WR TMR, TIER0, d` (R89) -/
  | wrTmrTier0 (d : Byte)
  /-- `RD TMR, TSR0` (R90) -/
  | rdTmrTsr0
  /-- `WR TMR, TSR0, d` (R91) -/
  | wrTmrTsr0 (d : Byte)
  /-- `RD TMR, TCNT0H` (R92) -/
  | rdTmrTcnt0H
  /-- `WR TMR, TCNT0H, d` (R93) -/
  | wrTmrTcnt0H (d : Byte)
  /-- `RD TMR, TCNT0L` (R94) -/
  | rdTmrTcnt0L
  /-- `WR TMR, TCNT0L, d` (R95) -/
  | wrTmrTcnt0L (d : Byte)
  /-- `RD TMR, GRA0H` (R96) -/
  | rdTmrGra0H
  /-- `WR TMR, GRA0H, d` (R97) -/
  | wrTmrGra0H (d : Byte)
  /-- `RD TMR, GRA0L` (R98) -/
  | rdTmrGra0L
  /-- `WR TMR, GRA0L, d` (R99) -/
  | wrTmrGra0L (d : Byte)
  /-- `RD TMR, GRB0H` (R100) -/
  | rdTmrGrb0H
  /-- `WR TMR, GRB0H, d` (R101) -/
  | wrTmrGrb0H (d : Byte)
  /-- `RD TMR, GRB0L` (R102) -/
  | rdTmrGrb0L
  /-- `WR TMR, GRB0L, d` (R103) -/
  | wrTmrGrb0L (d : Byte)
  /-- `RD TMR, TCR1` (R84) -/
  | rdTmrTcr1
  /-- `WR TMR, TCR1, d` (R85) -/
  | wrTmrTcr1 (d : Byte)
  /-- `RD TMR, TIOR1` (R86) -/
  | rdTmrTior1
  /-- `WR TMR, TIOR1, d` (R87) -/
  | wrTmrTior1 (d : Byte)
  /-- `RD TMR, TIER1` (R88) -/
  | rdTmrTier1
  /-- `WR TMR, TIER1, d` (R89) -/
  | wrTmrTier1 (d : Byte)
  /-- `RD TMR, TSR1` (R90) -/
  | rdTmrTsr1
  /-- `WR TMR, TSR1, d` (R91) -/
  | wrTmrTsr1 (d : Byte)
  /-- `RD TMR, TCNT1H` (R92) -/
  | rdTmrTcnt1H
  /-- `WR TMR, TCNT1H, d` (R93) -/
  | wrTmrTcnt1H (d : Byte)
  /-- `RD TMR, TCNT1L` (R94) -/
  | rdTmrTcnt1L
  /-- `WR TMR, TCNT1L, d` (R95) -/
  | wrTmrTcnt1L (d : Byte)
  /-- `RD TMR, GRA1H` (R96) -/
  | rdTmrGra1H
  /-- `WR TMR, GRA1H, d` (R97) -/
  | wrTmrGra1H (d : Byte)
  /-- `RD TMR, GRA1L` (R98) -/
  | rdTmrGra1L
  /-- `WR TMR, GRA1L, d` (R99) -/
  | wrTmrGra1L (d : Byte)
  /-- `RD TMR, GRB1H` (R100) -/
  | rdTmrGrb1H
  /-- `WR TMR, GRB1H, d` (R101) -/
  | wrTmrGrb1H (d : Byte)
  /-- `RD TMR, GRB1L` (R102) -/
  | rdTmrGrb1L
  /-- `WR TMR, GRB1L, d` (R103) -/
  | wrTmrGrb1L (d : Byte)
  /-- `RD TMR, TCR2` (R84) -/
  | rdTmrTcr2
  /-- `WR TMR, TCR2, d` (R85) -/
  | wrTmrTcr2 (d : Byte)
  /-- `RD TMR, TIOR2` (R86) -/
  | rdTmrTior2
  /-- `WR TMR, TIOR2, d` (R87) -/
  | wrTmrTior2 (d : Byte)
  /-- `RD TMR, TIER2` (R88) -/
  | rdTmrTier2
  /-- `WR TMR, TIER2, d` (R89) -/
  | wrTmrTier2 (d : Byte)
  /-- `RD TMR, TSR2` (R90) -/
  | rdTmrTsr2
  /-- `WR TMR, TSR2, d` (R91) -/
  | wrTmrTsr2 (d : Byte)
  /-- `RD TMR, TCNT2H` (R92) -/
  | rdTmrTcnt2H
  /-- `WR TMR, TCNT2H, d` (R93) -/
  | wrTmrTcnt2H (d : Byte)
  /-- `RD TMR, TCNT2L` (R94) -/
  | rdTmrTcnt2L
  /-- `WR TMR, TCNT2L, d` (R95) -/
  | wrTmrTcnt2L (d : Byte)
  /-- `RD TMR, GRA2H` (R96) -/
  | rdTmrGra2H
  /-- `WR TMR, GRA2H, d` (R97) -/
  | wrTmrGra2H (d : Byte)
  /-- `RD TMR, GRA2L` (R98) -/
  | rdTmrGra2L
  /-- `WR TMR, GRA2L, d` (R99) -/
  | wrTmrGra2L (d : Byte)
  /-- `RD TMR, GRB2H` (R100) -/
  | rdTmrGrb2H
  /-- `WR TMR, GRB2H, d` (R101) -/
  | wrTmrGrb2H (d : Byte)
  /-- `RD TMR, GRB2L` (R102) -/
  | rdTmrGrb2L
  /-- `WR TMR, GRB2L, d` (R103) -/
  | wrTmrGrb2L (d : Byte)
  /-- `RD TMR, TCR3` (R84) -/
  | rdTmrTcr3
  /-- `WR TMR, TCR3, d` (R85) -/
  | wrTmrTcr3 (d : Byte)
  /-- `RD TMR, TIOR3` (R86) -/
  | rdTmrTior3
  /-- `WR TMR, TIOR3, d` (R87) -/
  | wrTmrTior3 (d : Byte)
  /-- `RD TMR, TIER3` (R88) -/
  | rdTmrTier3
  /-- `WR TMR, TIER3, d` (R89) -/
  | wrTmrTier3 (d : Byte)
  /-- `RD TMR, TSR3` (R90) -/
  | rdTmrTsr3
  /-- `WR TMR, TSR3, d` (R91) -/
  | wrTmrTsr3 (d : Byte)
  /-- `RD TMR, TCNT3H` (R92) -/
  | rdTmrTcnt3H
  /-- `WR TMR, TCNT3H, d` (R93) -/
  | wrTmrTcnt3H (d : Byte)
  /-- `RD TMR, TCNT3L` (R94) -/
  | rdTmrTcnt3L
  /-- `WR TMR, TCNT3L, d` (R95) -/
  | wrTmrTcnt3L (d : Byte)
  /-- `RD TMR, GRA3H` (R96) -/
  | rdTmrGra3H
  /-- `WR TMR, GRA3H, d` (R97) -/
  | wrTmrGra3H (d : Byte)
  /-- `RD TMR, GRA3L` (R98) -/
  | rdTmrGra3L
  /-- `WR TMR, GRA3L, d` (R99) -/
  | wrTmrGra3L (d : Byte)
  /-- `RD TMR, GRB3H` (R100) -/
  | rdTmrGrb3H
  /-- `WR TMR, GRB3H, d` (R101) -/
  | wrTmrGrb3H (d : Byte)
  /-- `RD TMR, GRB3L` (R102) -/
  | rdTmrGrb3L
  /-- `WR TMR, GRB3L, d` (R103) -/
  | wrTmrGrb3L (d : Byte)
  /-- `RD TMR, TCR4` (R84) -/
  | rdTmrTcr4
  /-- `WR TMR, TCR4, d` (R85) -/
  | wrTmrTcr4 (d : Byte)
  /-- `RD TMR, TIOR4` (R86) -/
  | rdTmrTior4
  /-- `WR TMR, TIOR4, d` (R87) -/
  | wrTmrTior4 (d : Byte)
  /-- `RD TMR, TIER4` (R88) -/
  | rdTmrTier4
  /-- `WR TMR, TIER4, d` (R89) -/
  | wrTmrTier4 (d : Byte)
  /-- `RD TMR, TSR4` (R90) -/
  | rdTmrTsr4
  /-- `WR TMR, TSR4, d` (R91) -/
  | wrTmrTsr4 (d : Byte)
  /-- `RD TMR, TCNT4H` (R92) -/
  | rdTmrTcnt4H
  /-- `WR TMR, TCNT4H, d` (R93) -/
  | wrTmrTcnt4H (d : Byte)
  /-- `RD TMR, TCNT4L` (R94) -/
  | rdTmrTcnt4L
  /-- `WR TMR, TCNT4L, d` (R95) -/
  | wrTmrTcnt4L (d : Byte)
  /-- `RD TMR, GRA4H` (R96) -/
  | rdTmrGra4H
  /-- `WR TMR, GRA4H, d` (R97) -/
  | wrTmrGra4H (d : Byte)
  /-- `RD TMR, GRA4L` (R98) -/
  | rdTmrGra4L
  /-- `WR TMR, GRA4L, d` (R99) -/
  | wrTmrGra4L (d : Byte)
  /-- `RD TMR, GRB4H` (R100) -/
  | rdTmrGrb4H
  /-- `WR TMR, GRB4H, d` (R101) -/
  | wrTmrGrb4H (d : Byte)
  /-- `RD TMR, GRB4L` (R102) -/
  | rdTmrGrb4L
  /-- `WR TMR, GRB4L, d` (R103) -/
  | wrTmrGrb4L (d : Byte)
  /-- `RD TMR, <scratch 0x2C..0x2F>` (R104) -/
  | rdTmrScratch2C (j : Fin 4)
  /-- `WR TMR, <scratch 0x2C..0x2F>, d` (R105) -/
  | wrTmrScratch2C (j : Fin 4) (d : Byte)
  /-- `RD TMR, <scratch 0x30..0x31>` (R104) -/
  | rdTmrScratch30 (j : Fin 2)
  /-- `WR TMR, <scratch 0x30..0x31>, d` (R105) -/
  | wrTmrScratch30 (j : Fin 2) (d : Byte)
  /-- `RD TMR, <scratch 0x3C..0x3F>` (R104) -/
  | rdTmrScratch3C (j : Fin 4)
  /-- `WR TMR, <scratch 0x3C..0x3F>, d` (R105) -/
  | wrTmrScratch3C (j : Fin 4) (d : Byte)
  /-- `RD SCI<k>, SCR` (R118) -/
  | rdSciScr (k : Fin 8)
  /-- `WR SCI<k>, SCR, d` (R113) -/
  | wrSciScr (k : Fin 8) (d : Byte)
  /-- `RD SCI<k>, TDR` (R119) -/
  | rdSciTdr (k : Fin 8)
  /-- `WR SCI<k>, TDR, d` (R114) -/
  | wrSciTdr (k : Fin 8) (d : Byte)
  /-- `RD SCI<k>, SSR` (R120) -/
  | rdSciSsr (k : Fin 8)
  /-- `WR SCI<k>, SSR, d` (R115) -/
  | wrSciSsr (k : Fin 8) (d : Byte)
  /-- `RD SCI<k>, RDR` (R121) -/
  | rdSciRdr (k : Fin 8)
  /-- `WR SCI<k>, RDR, d` (R116) -/
  | wrSciRdr (k : Fin 8) (d : Byte)
  /-- `RD SCI<k>, <raw 0..1>` (R122) -/
  | rdSciRaw01 (k : Fin 8) (j : Fin 2)
  /-- `WR SCI<k>, <raw 0..1>, d` (R117) -/
  | wrSciRaw01 (k : Fin 8) (j : Fin 2) (d : Byte)
  /-- `RD SCI<k>, <raw 6..7>` (R122) -/
  | rdSciRaw67 (k : Fin 8) (j : Fin 2)
  /-- `WR SCI<k>, <raw 6..7>, d` (R117) -/
  | wrSciRaw67 (k : Fin 8) (j : Fin 2) (d : Byte)
  /-- `TICK TMR, c` (R60) -/
  | tickTmr (c : Nat)
  /-- `TICK SCI<k>, c` (R106) -/
  | tickSci (k : Fin 8) (c : Nat)
  /-- `SEND SCI<k>, bs` (R123) -/
  | sendSci (k : Fin 8) (bs : List Byte)
  /-- `PEND SCI<k>` (R124) -/
  | pendSci (k : Fin 8)
  deriving DecidableEq, Repr

/-- An operation as the driver issues it (R54): a bus access carries its full 32-bit address. -/
inductive Op where
  /-- `TMR.read(addr)` -/
  | tmrRead (addr : Addr)
  /-- `TMR.write(addr, d)` -/
  | tmrWrite (addr : Addr) (d : Byte)
  /-- `SCI[k].read(addr)` -/
  | sciRead (k : Fin 8) (addr : Addr)
  /-- `SCI[k].write(addr, d)` -/
  | sciWrite (k : Fin 8) (addr : Addr) (d : Byte)
  /-- `TMR.tick(c)` -/
  | tmrTick (c : Nat)
  /-- `SCI[k].tick(c)` -/
  | sciTick (k : Fin 8) (c : Nat)
  /-- `SCI[k].send(bs)` -/
  | sciSend (k : Fin 8) (bs : List Byte)
  /-- `SCI[k].hasPendingRX` -/
  | sciPend (k : Fin 8)
  deriving DecidableEq, Repr

/-- The 16-bit registers that WR16 and RD16 name (R59). -/
inductive Reg16 where
  | tcnt | gra | grb
  deriving DecidableEq, Repr

/-- One line of the syntax of R58, and the pseudo-operations of R59. `o` is an offset, as a number or through the register names
(`TmrReg.offset`, `SciReg.offset`). -/
inductive Line where
  /-- `RD TMR, o` -/
  | rdTmr (o : Addr)
  /-- `WR TMR, o, d` -/
  | wrTmr (o : Addr) (d : Byte)
  /-- `RD TMR, @a` -/
  | rdTmrAbs (a : Addr)
  /-- `WR TMR, @a, d` -/
  | wrTmrAbs (a : Addr) (d : Byte)
  /-- `RD SCIk, o` -/
  | rdSci (k : Fin 8) (o : Addr)
  /-- `WR SCIk, o, d` -/
  | wrSci (k : Fin 8) (o : Addr) (d : Byte)
  /-- `TICK TMR, c` -/
  | tickTmr (c : Nat)
  /-- `TICK SCIk, c` -/
  | tickSci (k : Fin 8) (c : Nat)
  /-- `SEND SCIk, [bs]` -/
  | send (k : Fin 8) (bs : List Byte)
  /-- `PEND SCIk` -/
  | pend (k : Fin 8)
  /-- `WR16 TMR, R, v` for R the register `r` of channel `i` -/
  | wr16 (r : Reg16) (i : Fin 5) (v : Half)
  /-- `RD16 TMR, R` -/
  | rd16 (r : Reg16) (i : Fin 5)
  /-- `TICKALL c` -/
  | tickAll (c : Nat)
  deriving DecidableEq, Repr

end Sys2Proof
end

