-- ==== Sys2Proof/WellFormed.lean ====
section
/-! DEFINITION. When an operation is well formed on a platform with `nSci` serial instances: the one condition the encoding puts on
an operand is that a serial instance number is below N_SCI (30_encoding.md R56, R57). Every other operand admits every value of its
type (R54). -/

namespace Sys2Proof

/-- The serial instance an operation is for, if it is a serial one. -/
def Instr.sci : Instr → Option (Fin 8)
  | .rdTmrOut | .wrTmrOut _ | .rdTmrTstr | .wrTmrTstr _
  | .rdTmrTsnc | .wrTmrTsnc _ | .rdTmrTmdr | .wrTmrTmdr _
  | .rdTmrTfcr | .wrTmrTfcr _ | .rdTmrTcr0 | .wrTmrTcr0 _
  | .rdTmrTior0 | .wrTmrTior0 _ | .rdTmrTier0 | .wrTmrTier0 _
  | .rdTmrTsr0 | .wrTmrTsr0 _ | .rdTmrTcnt0H | .wrTmrTcnt0H _
  | .rdTmrTcnt0L | .wrTmrTcnt0L _ | .rdTmrGra0H | .wrTmrGra0H _
  | .rdTmrGra0L | .wrTmrGra0L _ | .rdTmrGrb0H | .wrTmrGrb0H _
  | .rdTmrGrb0L | .wrTmrGrb0L _ | .rdTmrTcr1 | .wrTmrTcr1 _
  | .rdTmrTior1 | .wrTmrTior1 _ | .rdTmrTier1 | .wrTmrTier1 _
  | .rdTmrTsr1 | .wrTmrTsr1 _ | .rdTmrTcnt1H | .wrTmrTcnt1H _
  | .rdTmrTcnt1L | .wrTmrTcnt1L _ | .rdTmrGra1H | .wrTmrGra1H _
  | .rdTmrGra1L | .wrTmrGra1L _ | .rdTmrGrb1H | .wrTmrGrb1H _
  | .rdTmrGrb1L | .wrTmrGrb1L _ | .rdTmrTcr2 | .wrTmrTcr2 _
  | .rdTmrTior2 | .wrTmrTior2 _ | .rdTmrTier2 | .wrTmrTier2 _
  | .rdTmrTsr2 | .wrTmrTsr2 _ | .rdTmrTcnt2H | .wrTmrTcnt2H _
  | .rdTmrTcnt2L | .wrTmrTcnt2L _ | .rdTmrGra2H | .wrTmrGra2H _
  | .rdTmrGra2L | .wrTmrGra2L _ | .rdTmrGrb2H | .wrTmrGrb2H _
  | .rdTmrGrb2L | .wrTmrGrb2L _ | .rdTmrTcr3 | .wrTmrTcr3 _
  | .rdTmrTior3 | .wrTmrTior3 _ | .rdTmrTier3 | .wrTmrTier3 _
  | .rdTmrTsr3 | .wrTmrTsr3 _ | .rdTmrTcnt3H | .wrTmrTcnt3H _
  | .rdTmrTcnt3L | .wrTmrTcnt3L _ | .rdTmrGra3H | .wrTmrGra3H _
  | .rdTmrGra3L | .wrTmrGra3L _ | .rdTmrGrb3H | .wrTmrGrb3H _
  | .rdTmrGrb3L | .wrTmrGrb3L _ | .rdTmrTcr4 | .wrTmrTcr4 _
  | .rdTmrTior4 | .wrTmrTior4 _ | .rdTmrTier4 | .wrTmrTier4 _
  | .rdTmrTsr4 | .wrTmrTsr4 _ | .rdTmrTcnt4H | .wrTmrTcnt4H _
  | .rdTmrTcnt4L | .wrTmrTcnt4L _ | .rdTmrGra4H | .wrTmrGra4H _
  | .rdTmrGra4L | .wrTmrGra4L _ | .rdTmrGrb4H | .wrTmrGrb4H _
  | .rdTmrGrb4L | .wrTmrGrb4L _ | .rdTmrScratch2C _ | .wrTmrScratch2C _ _
  | .rdTmrScratch30 _ | .wrTmrScratch30 _ _ | .rdTmrScratch3C _ | .wrTmrScratch3C _ _
  | .tickTmr _ => none
  | .rdSciScr k | .wrSciScr k _ | .rdSciTdr k | .wrSciTdr k _
  | .rdSciSsr k | .wrSciSsr k _ | .rdSciRdr k | .wrSciRdr k _
  | .rdSciRaw01 k _ | .wrSciRaw01 k _ _ | .rdSciRaw67 k _ | .wrSciRaw67 k _ _
  | .tickSci k _ | .sendSci k _ | .pendSci k => some k

/-- The operation names an instance the platform has (R56: `k < N_SCI`). -/
def Instr.wellFormed (nSci : Nat) (i : Instr) : Bool :=
  match i.sci with
  | none => true
  | some k => k.val < nSci

end Sys2Proof
end

