-- ==== Sys2Proof/Decode.lean ====
section
/-! DEFINITION. The decoder of 30_encoding.md R50 to R57, built from the fields of the word and the offset maps of 20_memory.md R36
and R39; after it the encoder, written word by word from the encodings that 40_timer_tick.md to 44_serial_host.md give
each operation; then the encoder of the driver's operations (R55), the syntax lines (R58, R59), and the host's entry. -/

namespace Sys2Proof

/-! ### The offset maps -/

/-- The register at block offset `n` of a channel (R36). -/
def chanReg (n : Nat) : ChanReg :=
  match n with
  | 0 => .tcr | 1 => .tior | 2 => .tier | 3 => .tsr | 4 => .tcntH
  | 5 => .tcntL | 6 => .graH | 7 => .graL | 8 => .grbH | _ => .grbL

/-- The global register at offset 0 to 3 (R36, D15). -/
def globalReg (n : Nat) : TmrReg :=
  match n with
  | 0 => .tstr | 1 => .tsnc | 2 => .tmdr | _ => .tfcr

/-- The offset map of the timer window (R36): four globals, channels 0 to 3 in ten-byte blocks from 0x04, the gap 0x2C..0x31,
channel 4 from 0x32, and the tail 0x3C..0x3F. -/
def tmrReg (off : BitVec 6) : TmrReg :=
  let n := off.toNat
  if n < 0x04 then globalReg n
  else if n < 0x2C then .chan (Fin.ofNat 5 ((n - 0x04) / 10)) (chanReg ((n - 0x04) % 10))
  else if n < 0x30 then .scratch2C (Fin.ofNat 4 (n - 0x2C))
  else if n < 0x32 then .scratch30 (Fin.ofNat 2 (n - 0x30))
  else if n < 0x3C then .chan 4 (chanReg (n - 0x32))
  else .scratch3C (Fin.ofNat 4 (n - 0x3C))

/-- The offset map of a serial window (R39). -/
def sciReg (off : BitVec 3) : SciReg :=
  match off.toNat with
  | 0 => .raw01 0 | 1 => .raw01 1 | 2 => .scr | 3 => .tdr
  | 4 => .ssr | 5 => .rdr | 6 => .raw67 0 | _ => .raw67 1

/-- The block base of channel `i`: 0x04, 0x0E, 0x18, 0x22, 0x32 (R36). -/
def blockBase (i : Fin 5) : Nat :=
  match i.val with
  | 0 => 0x04 | 1 => 0x0E | 2 => 0x18 | 3 => 0x22 | _ => 0x32

/-- The block offset of a channel register (R36). -/
def ChanReg.blockOffset : ChanReg → Nat
  | .tcr => 0 | .tior => 1 | .tier => 2 | .tsr => 3 | .tcntH => 4
  | .tcntL => 5 | .graH => 6 | .graL => 7 | .grbH => 8 | .grbL => 9

/-- The window offset a timer register name stands for (R58). -/
def TmrReg.offset : TmrReg → BitVec 6
  | .tstr => 0x00 | .tsnc => 0x01 | .tmdr => 0x02 | .tfcr => 0x03
  | .chan i r => BitVec.ofNat 6 (blockBase i + r.blockOffset)
  | .scratch2C j => BitVec.ofNat 6 (0x2C + j.val)
  | .scratch30 j => BitVec.ofNat 6 (0x30 + j.val)
  | .scratch3C j => BitVec.ofNat 6 (0x3C + j.val)

/-- The window offset a serial register name stands for (R58). -/
def SciReg.offset : SciReg → BitVec 3
  | .scr => 2 | .tdr => 3 | .ssr => 4 | .rdr => 5
  | .raw01 j => BitVec.ofNat 3 j.val
  | .raw67 j => BitVec.ofNat 3 (6 + j.val)

/-! ### From a register and a direction to the table's row -/

/-- The one of five that belongs to channel `i`. -/
def pickChan {α : Type} (i : Fin 5) (a0 a1 a2 a3 a4 : α) : α :=
  match i.val with
  | 0 => a0 | 1 => a1 | 2 => a2 | 3 => a3 | _ => a4

/-- The row that reads register `r` of channel `i`. -/
def ChanReg.readRow (i : Fin 5) : ChanReg → Instr
  | .tcr => pickChan i .rdTmrTcr0 .rdTmrTcr1 .rdTmrTcr2 .rdTmrTcr3 .rdTmrTcr4
  | .tior => pickChan i .rdTmrTior0 .rdTmrTior1 .rdTmrTior2 .rdTmrTior3 .rdTmrTior4
  | .tier => pickChan i .rdTmrTier0 .rdTmrTier1 .rdTmrTier2 .rdTmrTier3 .rdTmrTier4
  | .tsr => pickChan i .rdTmrTsr0 .rdTmrTsr1 .rdTmrTsr2 .rdTmrTsr3 .rdTmrTsr4
  | .tcntH => pickChan i .rdTmrTcnt0H .rdTmrTcnt1H .rdTmrTcnt2H .rdTmrTcnt3H .rdTmrTcnt4H
  | .tcntL => pickChan i .rdTmrTcnt0L .rdTmrTcnt1L .rdTmrTcnt2L .rdTmrTcnt3L .rdTmrTcnt4L
  | .graH => pickChan i .rdTmrGra0H .rdTmrGra1H .rdTmrGra2H .rdTmrGra3H .rdTmrGra4H
  | .graL => pickChan i .rdTmrGra0L .rdTmrGra1L .rdTmrGra2L .rdTmrGra3L .rdTmrGra4L
  | .grbH => pickChan i .rdTmrGrb0H .rdTmrGrb1H .rdTmrGrb2H .rdTmrGrb3H .rdTmrGrb4H
  | .grbL => pickChan i .rdTmrGrb0L .rdTmrGrb1L .rdTmrGrb2L .rdTmrGrb3L .rdTmrGrb4L

/-- The row that writes `d` to register `r` of channel `i`. -/
def ChanReg.writeRow (i : Fin 5) (d : Byte) : ChanReg → Instr
  | .tcr => pickChan i (.wrTmrTcr0 d) (.wrTmrTcr1 d) (.wrTmrTcr2 d) (.wrTmrTcr3 d) (.wrTmrTcr4 d)
  | .tior => pickChan i (.wrTmrTior0 d) (.wrTmrTior1 d) (.wrTmrTior2 d) (.wrTmrTior3 d) (.wrTmrTior4 d)
  | .tier => pickChan i (.wrTmrTier0 d) (.wrTmrTier1 d) (.wrTmrTier2 d) (.wrTmrTier3 d) (.wrTmrTier4 d)
  | .tsr => pickChan i (.wrTmrTsr0 d) (.wrTmrTsr1 d) (.wrTmrTsr2 d) (.wrTmrTsr3 d) (.wrTmrTsr4 d)
  | .tcntH => pickChan i (.wrTmrTcnt0H d) (.wrTmrTcnt1H d) (.wrTmrTcnt2H d) (.wrTmrTcnt3H d) (.wrTmrTcnt4H d)
  | .tcntL => pickChan i (.wrTmrTcnt0L d) (.wrTmrTcnt1L d) (.wrTmrTcnt2L d) (.wrTmrTcnt3L d) (.wrTmrTcnt4L d)
  | .graH => pickChan i (.wrTmrGra0H d) (.wrTmrGra1H d) (.wrTmrGra2H d) (.wrTmrGra3H d) (.wrTmrGra4H d)
  | .graL => pickChan i (.wrTmrGra0L d) (.wrTmrGra1L d) (.wrTmrGra2L d) (.wrTmrGra3L d) (.wrTmrGra4L d)
  | .grbH => pickChan i (.wrTmrGrb0H d) (.wrTmrGrb1H d) (.wrTmrGrb2H d) (.wrTmrGrb3H d) (.wrTmrGrb4H d)
  | .grbL => pickChan i (.wrTmrGrb0L d) (.wrTmrGrb1L d) (.wrTmrGrb2L d) (.wrTmrGrb3L d) (.wrTmrGrb4L d)

/-- The row that reads a timer register. -/
def TmrReg.readRow : TmrReg → Instr
  | .tstr => .rdTmrTstr | .tsnc => .rdTmrTsnc | .tmdr => .rdTmrTmdr | .tfcr => .rdTmrTfcr
  | .chan i r => r.readRow i
  | .scratch2C j => .rdTmrScratch2C j | .scratch30 j => .rdTmrScratch30 j | .scratch3C j => .rdTmrScratch3C j

/-- The row that writes `d` to a timer register. -/
def TmrReg.writeRow (d : Byte) : TmrReg → Instr
  | .tstr => .wrTmrTstr d | .tsnc => .wrTmrTsnc d | .tmdr => .wrTmrTmdr d | .tfcr => .wrTmrTfcr d
  | .chan i r => r.writeRow i d
  | .scratch2C j => .wrTmrScratch2C j d | .scratch30 j => .wrTmrScratch30 j d | .scratch3C j => .wrTmrScratch3C j d

/-- The row that reads a register of serial instance `k`. -/
def SciReg.readRow (k : Fin 8) : SciReg → Instr
  | .scr => .rdSciScr k | .tdr => .rdSciTdr k | .ssr => .rdSciSsr k | .rdr => .rdSciRdr k
  | .raw01 j => .rdSciRaw01 k j | .raw67 j => .rdSciRaw67 k j

/-- The row that writes `d` to a register of serial instance `k`. -/
def SciReg.writeRow (k : Fin 8) (d : Byte) : SciReg → Instr
  | .scr => .wrSciScr k d | .tdr => .wrSciTdr k d | .ssr => .wrSciSsr k d | .rdr => .wrSciRdr k d
  | .raw01 j => .wrSciRaw01 k j d | .raw67 j => .wrSciRaw67 k j d

/-! ### The fields of a word -/

/-- `W[5:3]`, the instance field (R52, R53). -/
def kField (w : TWord) : Fin 8 := ⟨(w.extractLsb' 3 3).toNat, (w.extractLsb' 3 3).isLt⟩

/-- A class 0b00 word (R51, R56): h = 0 is the out-of-window access whatever bits 5:0 hold. -/
def decodeTimer (w : TWord) (d : Byte) : Instr :=
  match w.getLsbD 7, w.getLsbD 6 with
  | false, false => .rdTmrOut
  | false, true => .wrTmrOut d
  | true, false => (tmrReg (w.extractLsb' 0 6)).readRow
  | true, true => (tmrReg (w.extractLsb' 0 6)).writeRow d

/-- A class 0b01 word (R52, R56). -/
def decodeSerial (nSci : Nat) (w : TWord) (d : Byte) : Except Reserved Instr :=
  if w.getLsbD 7 = false then .error .sciBit7Clear
  else if nSci ≤ (kField w).val then .error (.noSuchSci (kField w))
  else if w.getLsbD 6 then .ok ((sciReg (w.extractLsb' 0 3)).writeRow (kField w) d)
  else .ok ((sciReg (w.extractLsb' 0 3)).readRow (kField w))

/-- A class 0b10 word (R53, R56, R57). -/
def decodeHost (nSci : Nat) (t : Transaction) : Except Reserved Instr :=
  let k := kField t.word
  if t.word.extractLsb' 6 2 ≠ 0 then .error .hostBits76
  else if t.word.getLsbD 2 then .error .hostOp
  else match (t.word.extractLsb' 0 2).toNat with
    | 0 => if k.val = 0 then .ok (.tickTmr t.c) else .error (.timerTickK k)
    | 1 => if k.val < nSci then .ok (.tickSci k t.c) else .error (.noSuchSci k)
    | 2 => if k.val < nSci then .ok (.sendSci k t.bs) else .error (.noSuchSci k)
    | _ => if k.val < nSci then .ok (.pendSci k) else .error (.noSuchSci k)

/-- The decoder: total on the 1024 words (R56), a reserved word rejected by name (R57). `nSci` is N_SCI. -/
def decode (nSci : Nat) (t : Transaction) : Except Reserved Instr :=
  match (t.word.extractLsb' 8 2).toNat with
  | 0 => .ok (decodeTimer t.word t.d)
  | 1 => decodeSerial nSci t.word t.d
  | 2 => decodeHost nSci t
  | _ => .error .class3

/-! ### The encoder -/

/-- The instance field in its place, `k << 3` (R55). -/
def kBits (k : Fin 8) : TWord := BitVec.ofNat 10 (8 * k.val)

/-- A group index in the low bits of the word. -/
def jBits {n : Nat} (j : Fin n) : TWord := BitVec.ofNat 10 j.val

/-- The word of an operation, as the rule of each operation gives it ("Encoding: word …" of R60 and R73 to R124). -/
def Instr.word : Instr → TWord
  | .rdTmrOut => 0x000
  | .wrTmrOut _ => 0x040
  | .rdTmrTstr => 0x080
  | .wrTmrTstr _ => 0x0C0
  | .rdTmrTsnc => 0x081
  | .wrTmrTsnc _ => 0x0C1
  | .rdTmrTmdr => 0x082
  | .wrTmrTmdr _ => 0x0C2
  | .rdTmrTfcr => 0x083
  | .wrTmrTfcr _ => 0x0C3
  | .rdTmrTcr0 => 0x084
  | .wrTmrTcr0 _ => 0x0C4
  | .rdTmrTior0 => 0x085
  | .wrTmrTior0 _ => 0x0C5
  | .rdTmrTier0 => 0x086
  | .wrTmrTier0 _ => 0x0C6
  | .rdTmrTsr0 => 0x087
  | .wrTmrTsr0 _ => 0x0C7
  | .rdTmrTcnt0H => 0x088
  | .wrTmrTcnt0H _ => 0x0C8
  | .rdTmrTcnt0L => 0x089
  | .wrTmrTcnt0L _ => 0x0C9
  | .rdTmrGra0H => 0x08A
  | .wrTmrGra0H _ => 0x0CA
  | .rdTmrGra0L => 0x08B
  | .wrTmrGra0L _ => 0x0CB
  | .rdTmrGrb0H => 0x08C
  | .wrTmrGrb0H _ => 0x0CC
  | .rdTmrGrb0L => 0x08D
  | .wrTmrGrb0L _ => 0x0CD
  | .rdTmrTcr1 => 0x08E
  | .wrTmrTcr1 _ => 0x0CE
  | .rdTmrTior1 => 0x08F
  | .wrTmrTior1 _ => 0x0CF
  | .rdTmrTier1 => 0x090
  | .wrTmrTier1 _ => 0x0D0
  | .rdTmrTsr1 => 0x091
  | .wrTmrTsr1 _ => 0x0D1
  | .rdTmrTcnt1H => 0x092
  | .wrTmrTcnt1H _ => 0x0D2
  | .rdTmrTcnt1L => 0x093
  | .wrTmrTcnt1L _ => 0x0D3
  | .rdTmrGra1H => 0x094
  | .wrTmrGra1H _ => 0x0D4
  | .rdTmrGra1L => 0x095
  | .wrTmrGra1L _ => 0x0D5
  | .rdTmrGrb1H => 0x096
  | .wrTmrGrb1H _ => 0x0D6
  | .rdTmrGrb1L => 0x097
  | .wrTmrGrb1L _ => 0x0D7
  | .rdTmrTcr2 => 0x098
  | .wrTmrTcr2 _ => 0x0D8
  | .rdTmrTior2 => 0x099
  | .wrTmrTior2 _ => 0x0D9
  | .rdTmrTier2 => 0x09A
  | .wrTmrTier2 _ => 0x0DA
  | .rdTmrTsr2 => 0x09B
  | .wrTmrTsr2 _ => 0x0DB
  | .rdTmrTcnt2H => 0x09C
  | .wrTmrTcnt2H _ => 0x0DC
  | .rdTmrTcnt2L => 0x09D
  | .wrTmrTcnt2L _ => 0x0DD
  | .rdTmrGra2H => 0x09E
  | .wrTmrGra2H _ => 0x0DE
  | .rdTmrGra2L => 0x09F
  | .wrTmrGra2L _ => 0x0DF
  | .rdTmrGrb2H => 0x0A0
  | .wrTmrGrb2H _ => 0x0E0
  | .rdTmrGrb2L => 0x0A1
  | .wrTmrGrb2L _ => 0x0E1
  | .rdTmrTcr3 => 0x0A2
  | .wrTmrTcr3 _ => 0x0E2
  | .rdTmrTior3 => 0x0A3
  | .wrTmrTior3 _ => 0x0E3
  | .rdTmrTier3 => 0x0A4
  | .wrTmrTier3 _ => 0x0E4
  | .rdTmrTsr3 => 0x0A5
  | .wrTmrTsr3 _ => 0x0E5
  | .rdTmrTcnt3H => 0x0A6
  | .wrTmrTcnt3H _ => 0x0E6
  | .rdTmrTcnt3L => 0x0A7
  | .wrTmrTcnt3L _ => 0x0E7
  | .rdTmrGra3H => 0x0A8
  | .wrTmrGra3H _ => 0x0E8
  | .rdTmrGra3L => 0x0A9
  | .wrTmrGra3L _ => 0x0E9
  | .rdTmrGrb3H => 0x0AA
  | .wrTmrGrb3H _ => 0x0EA
  | .rdTmrGrb3L => 0x0AB
  | .wrTmrGrb3L _ => 0x0EB
  | .rdTmrTcr4 => 0x0B2
  | .wrTmrTcr4 _ => 0x0F2
  | .rdTmrTior4 => 0x0B3
  | .wrTmrTior4 _ => 0x0F3
  | .rdTmrTier4 => 0x0B4
  | .wrTmrTier4 _ => 0x0F4
  | .rdTmrTsr4 => 0x0B5
  | .wrTmrTsr4 _ => 0x0F5
  | .rdTmrTcnt4H => 0x0B6
  | .wrTmrTcnt4H _ => 0x0F6
  | .rdTmrTcnt4L => 0x0B7
  | .wrTmrTcnt4L _ => 0x0F7
  | .rdTmrGra4H => 0x0B8
  | .wrTmrGra4H _ => 0x0F8
  | .rdTmrGra4L => 0x0B9
  | .wrTmrGra4L _ => 0x0F9
  | .rdTmrGrb4H => 0x0BA
  | .wrTmrGrb4H _ => 0x0FA
  | .rdTmrGrb4L => 0x0BB
  | .wrTmrGrb4L _ => 0x0FB
  | .rdTmrScratch2C j => 0x0AC ||| jBits j
  | .wrTmrScratch2C j _ => 0x0EC ||| jBits j
  | .rdTmrScratch30 j => 0x0B0 ||| jBits j
  | .wrTmrScratch30 j _ => 0x0F0 ||| jBits j
  | .rdTmrScratch3C j => 0x0BC ||| jBits j
  | .wrTmrScratch3C j _ => 0x0FC ||| jBits j
  | .rdSciScr k => 0x182 ||| kBits k
  | .wrSciScr k _ => 0x1C2 ||| kBits k
  | .rdSciTdr k => 0x183 ||| kBits k
  | .wrSciTdr k _ => 0x1C3 ||| kBits k
  | .rdSciSsr k => 0x184 ||| kBits k
  | .wrSciSsr k _ => 0x1C4 ||| kBits k
  | .rdSciRdr k => 0x185 ||| kBits k
  | .wrSciRdr k _ => 0x1C5 ||| kBits k
  | .rdSciRaw01 k j => 0x180 ||| kBits k ||| jBits j
  | .wrSciRaw01 k j _ => 0x1C0 ||| kBits k ||| jBits j
  | .rdSciRaw67 k j => 0x186 ||| kBits k ||| jBits j
  | .wrSciRaw67 k j _ => 0x1C6 ||| kBits k ||| jBits j
  | .tickTmr _ => 0x200
  | .tickSci k _ => 0x201 ||| kBits k
  | .sendSci k _ => 0x202 ||| kBits k
  | .pendSci k => 0x203 ||| kBits k

/-- The data byte an operation carries beside its word (R54); 0 where it has none. -/
def Instr.dataByte : Instr → Byte
  | .wrTmrOut d | .wrTmrTstr d | .wrTmrTsnc d | .wrTmrTmdr d
  | .wrTmrTfcr d | .wrTmrTcr0 d | .wrTmrTior0 d | .wrTmrTier0 d
  | .wrTmrTsr0 d | .wrTmrTcnt0H d | .wrTmrTcnt0L d | .wrTmrGra0H d
  | .wrTmrGra0L d | .wrTmrGrb0H d | .wrTmrGrb0L d | .wrTmrTcr1 d
  | .wrTmrTior1 d | .wrTmrTier1 d | .wrTmrTsr1 d | .wrTmrTcnt1H d
  | .wrTmrTcnt1L d | .wrTmrGra1H d | .wrTmrGra1L d | .wrTmrGrb1H d
  | .wrTmrGrb1L d | .wrTmrTcr2 d | .wrTmrTior2 d | .wrTmrTier2 d
  | .wrTmrTsr2 d | .wrTmrTcnt2H d | .wrTmrTcnt2L d | .wrTmrGra2H d
  | .wrTmrGra2L d | .wrTmrGrb2H d | .wrTmrGrb2L d | .wrTmrTcr3 d
  | .wrTmrTior3 d | .wrTmrTier3 d | .wrTmrTsr3 d | .wrTmrTcnt3H d
  | .wrTmrTcnt3L d | .wrTmrGra3H d | .wrTmrGra3L d | .wrTmrGrb3H d
  | .wrTmrGrb3L d | .wrTmrTcr4 d | .wrTmrTior4 d | .wrTmrTier4 d
  | .wrTmrTsr4 d | .wrTmrTcnt4H d | .wrTmrTcnt4L d | .wrTmrGra4H d
  | .wrTmrGra4L d | .wrTmrGrb4H d | .wrTmrGrb4L d | .wrTmrScratch2C _ d
  | .wrTmrScratch30 _ d | .wrTmrScratch3C _ d | .wrSciScr _ d | .wrSciTdr _ d
  | .wrSciSsr _ d | .wrSciRdr _ d | .wrSciRaw01 _ _ d | .wrSciRaw67 _ _ d => d
  | .rdTmrOut | .rdTmrTstr | .rdTmrTsnc | .rdTmrTmdr | .rdTmrTfcr
  | .rdTmrTcr0 | .rdTmrTior0 | .rdTmrTier0 | .rdTmrTsr0 | .rdTmrTcnt0H
  | .rdTmrTcnt0L | .rdTmrGra0H | .rdTmrGra0L | .rdTmrGrb0H | .rdTmrGrb0L
  | .rdTmrTcr1 | .rdTmrTior1 | .rdTmrTier1 | .rdTmrTsr1 | .rdTmrTcnt1H
  | .rdTmrTcnt1L | .rdTmrGra1H | .rdTmrGra1L | .rdTmrGrb1H | .rdTmrGrb1L
  | .rdTmrTcr2 | .rdTmrTior2 | .rdTmrTier2 | .rdTmrTsr2 | .rdTmrTcnt2H
  | .rdTmrTcnt2L | .rdTmrGra2H | .rdTmrGra2L | .rdTmrGrb2H | .rdTmrGrb2L
  | .rdTmrTcr3 | .rdTmrTior3 | .rdTmrTier3 | .rdTmrTsr3 | .rdTmrTcnt3H
  | .rdTmrTcnt3L | .rdTmrGra3H | .rdTmrGra3L | .rdTmrGrb3H | .rdTmrGrb3L
  | .rdTmrTcr4 | .rdTmrTior4 | .rdTmrTier4 | .rdTmrTsr4 | .rdTmrTcnt4H
  | .rdTmrTcnt4L | .rdTmrGra4H | .rdTmrGra4L | .rdTmrGrb4H | .rdTmrGrb4L
  | .rdTmrScratch2C _ | .rdTmrScratch30 _ | .rdTmrScratch3C _ | .rdSciScr _ | .rdSciTdr _
  | .rdSciSsr _ | .rdSciRdr _ | .rdSciRaw01 _ _ | .rdSciRaw67 _ _ | .tickTmr _
  | .tickSci _ _ | .sendSci _ _ | .pendSci _ => 0

/-- The cycle value a tick carries (R54); 0 where there is none. -/
def Instr.cycle : Instr → Nat
  | .tickTmr c | .tickSci _ c => c
  | _ => 0

/-- The bytes a send carries (R54); none elsewhere. -/
def Instr.bytes : Instr → List Byte
  | .sendSci _ bs => bs
  | _ => []

/-- The encoder: the word and the operands beside it (R54, R55). An out-of-window access is written with bits 5:0 zero (R51). -/
def encode (i : Instr) : Transaction := { word := i.word, d := i.dataByte, c := i.cycle, bs := i.bytes }

/-! ### The driver's operations and the syntax lines -/

/-- The address is inside the timer's window (R35). -/
def inTimerWindow (p : Params) (a : Addr) : Bool :=
  decide (p.tmrBase.toNat ≤ a.toNat) && decide (a.toNat ≤ p.tmrBase.toNat + 0x3F)

/-- The window offset of an address inside the timer's window, `addr - TMR_BASE` (R35). -/
def timerOffset (p : Params) (a : Addr) : BitVec 6 := BitVec.ofNat 6 (a.toNat - p.tmrBase.toNat)

/-- The offset a serial instance takes from any address, `addr & 0x7` (R38). -/
def sciOffset (a : Addr) : BitVec 3 := (a &&& 0x7).setWidth 3

/-- `enc` of R55. -/
def Op.encode (p : Params) : Op → Transaction
  | .tmrRead a =>
    { word := if inTimerWindow p a then 0x080 ||| (timerOffset p a).setWidth 10 else 0x000, d := 0, c := 0, bs := [] }
  | .tmrWrite a d =>
    { word := if inTimerWindow p a then 0x0C0 ||| (timerOffset p a).setWidth 10 else 0x040, d := d, c := 0, bs := [] }
  | .sciRead k a => { word := 0x180 ||| kBits k ||| (sciOffset a).setWidth 10, d := 0, c := 0, bs := [] }
  | .sciWrite k a d => { word := 0x1C0 ||| kBits k ||| (sciOffset a).setWidth 10, d := d, c := 0, bs := [] }
  | .tmrTick c => { word := 0x200, d := 0, c := c, bs := [] }
  | .sciTick k c => { word := 0x201 ||| kBits k, d := 0, c := c, bs := [] }
  | .sciSend k bs => { word := 0x202 ||| kBits k, d := 0, c := 0, bs := bs }
  | .sciPend k => { word := 0x203 ||| kBits k, d := 0, c := 0, bs := [] }

/-- SCI_BASE[k] (R7). R58's lines name instances the platform has; for another number the address is 0 and the operation is refused
when it is decoded (R57). -/
def Params.sciBase (p : Params) (k : Fin 8) : Addr :=
  match p.sci[k.val]? with
  | some q => q.base
  | none => 0

/-- The high byte register of a 16-bit name (R59). -/
def Reg16.high : Reg16 → ChanReg
  | .tcnt => .tcntH | .gra => .graH | .grb => .grbH

/-- The low byte register of a 16-bit name (R59). -/
def Reg16.low : Reg16 → ChanReg
  | .tcnt => .tcntL | .gra => .graL | .grb => .grbL

/-- The address of a timer register (R58: `TMR_BASE + <o>`). -/
def TmrReg.address (p : Params) (r : TmrReg) : Addr := p.tmrBase + r.offset.setWidth 32

/-- The address of a serial register (R58: `SCI_BASE[k] + <o>`). -/
def SciReg.address (p : Params) (k : Fin 8) (r : SciReg) : Addr := p.sciBase k + r.offset.setWidth 32

/-- The instance numbers below N_SCI, ascending. -/
def Params.instances (p : Params) : List (Fin 8) :=
  [0, 1, 2, 3, 4, 5, 6, 7].filter fun k => decide (k.val < p.sci.length)

/-- The operations a line stands for, in order (R58); a pseudo-operation expands as R59 says. -/
def Line.ops (p : Params) : Line → List Op
  | .rdTmr o => [.tmrRead (p.tmrBase + o)]
  | .wrTmr o d => [.tmrWrite (p.tmrBase + o) d]
  | .rdTmrAbs a => [.tmrRead a]
  | .wrTmrAbs a d => [.tmrWrite a d]
  | .rdSci k o => [.sciRead k (p.sciBase k + o)]
  | .wrSci k o d => [.sciWrite k (p.sciBase k + o) d]
  | .tickTmr c => [.tmrTick c]
  | .tickSci k c => [.sciTick k c]
  | .send k bs => [.sciSend k bs]
  | .pend k => [.sciPend k]
  | .wr16 r i v =>
    [.tmrWrite ((TmrReg.chan i r.high).address p) (v.extractLsb' 8 8),
     .tmrWrite ((TmrReg.chan i r.low).address p) (v.extractLsb' 0 8)]
  | .rd16 r i => [.tmrRead ((TmrReg.chan i r.high).address p), .tmrRead ((TmrReg.chan i r.low).address p)]
  | .tickAll c => .tmrTick c :: p.instances.map fun k => .sciTick k c

/-- A driver's program as the transactions it issues: every line in order (R58, R59), every operation encoded (R55). -/
def assemble (p : Params) (ls : List Line) : List Transaction :=
  ls.flatMap fun l => (l.ops p).map (Op.encode p)

/-! ### The host's entry -/

/-- The transaction whose word is the ten low bits of the `nbits` bits of `w`, every operand beside the word zero or empty.
notes/assumptions/6.md. -/
def Transaction.ofBits (nbits w : Nat) : Transaction :=
  { word := BitVec.ofNat 10 (w % 2 ^ nbits), d := 0, c := 0, bs := [] }

/-- The instruction the decoder reads from the bits `w`, on the platform of `Config.params`. -/
def decodeTableWord (nbits w : Nat) : Option Instr :=
  match decode Config.params.sci.length (Transaction.ofBits nbits w) with
  | .ok i => some i
  | .error _ => none

end Sys2Proof
end

