-- ==== Sys2Proof/Machine/State.lean ====
section
/-! DEFINITION. The state of the machine as plain data (10_state.md): the timer unit, the serial instances, the construction
parameters, the output trace (00_scope.md R5), and the driver's side: the operations it has still to issue and the value the last
one returned to it. -/

namespace Sys2Proof.Machine

/-- The registers of one timer channel (R15, R17 to R21). TIOR holds no state (R16). -/
structure Channel where
  /-- TCR (R15) -/
  control : Byte
  /-- TIER (R17) -/
  ie : Byte
  /-- TSR (R18) -/
  status : Byte
  /-- TCNT (R19) -/
  counter : Half
  /-- GRA (R20) -/
  compareA : Half
  /-- GRB (R21) -/
  compareB : Half
  deriving DecidableEq, Repr

/-- The timer unit (R11 to R14, R23, R24). -/
structure Timer where
  /-- TSTR (R11) -/
  start : Byte
  /-- TSNC (R12) -/
  sync : Byte
  /-- TMDR (R13) -/
  mode : Byte
  /-- TFCR (R14) -/
  fc : Byte
  /-- the five channels -/
  ch : Vector Channel 5
  /-- the raw scratch region, indexed by window offset (R23) -/
  scratch : Vector Byte 64
  /-- the shared cycle snapshot (R24) -/
  snap : Nat
  deriving DecidableEq, Repr

/-- One serial instance (R25 to R33). -/
structure Sci where
  /-- the raw byte array, indexed by masked offset (R29) -/
  raw : Vector Byte 8
  /-- SCR (R25) -/
  control : Byte
  /-- TDR (R26) -/
  txData : Byte
  /-- SSR (R28) -/
  status : Byte
  /-- RDR (R27) -/
  rxData : Byte
  /-- the transmit countdown (R30) -/
  txTimer : Int
  /-- the last-sampled cycle value (R31) -/
  last : Nat
  /-- the inbound queue, front first (R33) -/
  rxq : List Byte
  /-- the interrupt offset, a constant (R32) -/
  o : Nat
  deriving DecidableEq, Repr

/-- An output event (R5): the only two kinds there are. -/
inductive Event where
  /-- `Irq(v)`: the interrupt-raise entry point called with vector number `v` -/
  | irq (v : Nat)
  /-- `Tx(k, b)`: the output callback of serial instance `k` called with byte `b` -/
  | tx (k : Fin 8) (b : Byte)
  deriving DecidableEq, Repr

/-- What an operation returned to the driver (R5): a read a byte, `hasPendingRX` a Boolean, every other operation nothing. -/
inductive Returned where
  | none
  | byte (b : Byte)
  | bool (b : Bool)
  deriving DecidableEq, Repr

/-- The whole state. DESIGN CHOICE: `ops` and `returned` are the driver's side, not the devices' (R9, R5; notes/assumptions/1.md
and 3.md); `params` are the construction parameters, which no operation writes (notes/assumptions/4.md). -/
structure State where
  /-- the construction parameters (00_scope.md section 3) -/
  params : Params
  /-- the timer unit -/
  timer : Timer
  /-- the serial instances, in ascending k; the length is N_SCI (notes/assumptions/15.md) -/
  sci : List Sci
  /-- the output trace, oldest event first (R5) -/
  trace : List Event
  /-- what the last operation returned to the driver -/
  returned : Returned
  /-- the operations the driver has still to issue, the next one first (R9, R132) -/
  ops : List Transaction
  deriving DecidableEq, Repr

/-- The model's fault (60_exceptions.md R126): the devices themselves have none (R125). -/
inductive Fault where
  /-- Raised by a timer or serial tick whose cycle value is below the device's stored one (R62, R107). Safe: the machine stops where
  the spec gives the operation no meaning. -/
  | nonMonotonicCycle
  deriving DecidableEq, Repr

/-- The model's refusals (R126). -/
inductive Refusal where
  /-- Raised by an arm of `exec` whose instruction has no meaning yet; no arm is left so. Safe. -/
  | notModelled (mnemonic : String)
  /-- Raised for a reserved transaction word (R57), and by a serial operation for an instance that the platform does not have, whose
  word R57 reserves. Safe: such a word names no operation of the hardware. -/
  | reserved (why : Reserved)
  deriving DecidableEq, Repr

/-- A channel at construction (R15, R17 to R21). -/
def Channel.reset : Channel :=
  { control := 0x00, ie := 0x00, status := 0x00, counter := 0x0000, compareA := 0xFFFF, compareB := 0xFFFF }

/-- The timer unit at construction with parameters `p` and the scratch contents that were drawn (R11 to R14, R23, R24). -/
def Timer.resetWith (p : Params) (scratch : Vector Byte 64) : Timer :=
  { start := 0x00, sync := 0x00, mode := 0x00, fc := 0x00
    ch := #v[Channel.reset, Channel.reset, Channel.reset, Channel.reset, Channel.reset]
    scratch := scratch, snap := p.cycle0 }

/-- A serial instance at construction with interrupt offset `o` and the raw contents that were drawn (R25 to R33). -/
def Sci.resetWith (p : Params) (o : Nat) (raw : Vector Byte 8) : Sci :=
  { raw := raw, control := 0x00, txData := 0x00, status := 0x80, rxData := 0x00
    txTimer := 0, last := p.cycle0, rxq := [], o := o }

/-- The machine right after construction (R139, R140) with parameters `p`, the scratch contents `scratch` and the raw contents
`raw k` of each instance, all three left open by the spec. -/
def State.resetWith (p : Params) (scratch : Vector Byte 64) (raw : Nat → Vector Byte 8) : State where
  params := p
  timer := Timer.resetWith p scratch
  sci := p.sci.zipIdx.map fun q => Sci.resetWith p q.1.irqOffset (raw q.2)
  trace := []
  returned := .none
  ops := []

/-- The machine right after reset: constructed with the parameters of `Config.params` (DESIGN CHOICE, unsafe:
notes/assumptions/4.md), its scratch and raw bytes FREE VALUES (notes/assumptions/5.md), no operation issued and none pending. -/
def State.reset : State :=
  State.resetWith Config.params
    (Vector.ofFn fun off => Config.scratchDraw off.val)
    (fun k => Vector.ofFn fun off => Config.rawDraw k off.val)

end Sys2Proof.Machine
end

