-- ==== Sys2Proof/Machine/Operands.lean ====
section
/-! DEFINITION. The forms in which an operand or a register is reached: the byte halves of a 16-bit register (20_memory.md R42, R43;
41_timer_bus.md R92 to R103), the byte behind each register name of the timer (R36) and of a serial instance (R39), and the fields of
the control registers that the rules read (10_state.md R15, R22, R25, R28). -/

namespace Sys2Proof.Machine

/-! ### The halves of a 16-bit register -/

/-- `v[15:8]` (R42). -/
def hiByte (v : Half) : Byte := v.extractLsb' 8 8

/-- `v[7:0]` (R42). -/
def loByte (v : Half) : Byte := v.extractLsb' 0 8

/-- `(d << 8) | (v & 0x00FF)`: a byte write to the high half keeps the low half (R43, R93). -/
def withHi (v : Half) (d : Byte) : Half := (d.setWidth 16 <<< 8) ||| (v &&& 0x00FF)

/-- `(v & 0xFF00) | d`: a byte write to the low half keeps the high half (R43, R95). -/
def withLo (v : Half) (d : Byte) : Half := (v &&& 0xFF00) ||| d.setWidth 16

/-- `{hi, lo}`: the value of RD16 (R59). -/
def pairBytes (hi lo : Byte) : Half := hi ++ lo

/-! ### The byte behind a register name -/

/-- The byte a read of channel register `r` returns (R84 to R102). TIOR reads 0x00 (R16, R86). -/
def Channel.readReg (ch : Channel) : ChanReg → Byte
  | .tcr => ch.control
  | .tior => 0x00
  | .tier => ch.ie
  | .tsr => ch.status
  | .tcntH => hiByte ch.counter
  | .tcntL => loByte ch.counter
  | .graH => hiByte ch.compareA
  | .graL => loByte ch.compareA
  | .grbH => hiByte ch.compareB
  | .grbL => loByte ch.compareB

/-- The channel after a write of `d` to channel register `r` (R85 to R103). A write to TIOR changes nothing (R16, R87). -/
def Channel.writeReg (ch : Channel) (d : Byte) : ChanReg → Channel
  | .tcr => { ch with control := d }
  | .tior => ch
  | .tier => { ch with ie := d }
  | .tsr => { ch with status := d }
  | .tcntH => { ch with counter := withHi ch.counter d }
  | .tcntL => { ch with counter := withLo ch.counter d }
  | .graH => { ch with compareA := withHi ch.compareA d }
  | .graL => { ch with compareA := withLo ch.compareA d }
  | .grbH => { ch with compareB := withHi ch.compareB d }
  | .grbL => { ch with compareB := withLo ch.compareB d }

/-- The window offset of a byte of the scratch region's three groups: it is the index into the region (R37). -/
def scratch2CIndex (j : Fin 4) : Fin 64 := ⟨0x2C + j.val, by omega⟩

/-- The same for the group 0x30..0x31. -/
def scratch30Index (j : Fin 2) : Fin 64 := ⟨0x30 + j.val, by omega⟩

/-- The same for the group 0x3C..0x3F. -/
def scratch3CIndex (j : Fin 4) : Fin 64 := ⟨0x3C + j.val, by omega⟩

/-- The byte a read of a timer register returns (R76 to R104). -/
def Timer.readReg (t : Timer) : TmrReg → Byte
  | .tstr => t.start
  | .tsnc => t.sync
  | .tmdr => t.mode
  | .tfcr => t.fc
  | .chan i r => t.ch[i].readReg r
  | .scratch2C j => t.scratch[scratch2CIndex j]
  | .scratch30 j => t.scratch[scratch30Index j]
  | .scratch3C j => t.scratch[scratch3CIndex j]

/-- The timer unit after a write of `d` to a timer register (R77 to R105). -/
def Timer.writeReg (t : Timer) (d : Byte) : TmrReg → Timer
  | .tstr => { t with start := d }
  | .tsnc => { t with sync := d }
  | .tmdr => { t with mode := d }
  | .tfcr => { t with fc := d }
  | .chan i r => { t with ch := t.ch.set i (t.ch[i].writeReg d r) }
  | .scratch2C j => { t with scratch := t.scratch.set (scratch2CIndex j) d }
  | .scratch30 j => { t with scratch := t.scratch.set (scratch30Index j) d }
  | .scratch3C j => { t with scratch := t.scratch.set (scratch3CIndex j) d }

/-- The index of raw offset 0 or 1 (R39). -/
def raw01Index (j : Fin 2) : Fin 8 := ⟨j.val, by omega⟩

/-- The index of raw offset 6 or 7 (R39). -/
def raw67Index (j : Fin 2) : Fin 8 := ⟨6 + j.val, by omega⟩

/-- The byte a read of a serial register returns (R118 to R122). -/
def Sci.readReg (x : Sci) : SciReg → Byte
  | .scr => x.control
  | .tdr => x.txData
  | .ssr => x.status
  | .rdr => x.rxData
  | .raw01 j => x.raw[raw01Index j]
  | .raw67 j => x.raw[raw67Index j]

/-! ### The fields of the control registers -/

/-- `runs(i)`: start bit set, PWM bit clear, external-clock bit clear (R22, R11, R13, R15). -/
def Timer.runs (t : Timer) (i : Fin 5) : Bool :=
  t.start.getLsbD i.val && !t.mode.getLsbD i.val && !(t.ch[i]).control.getLsbD 2

/-- The sub-tick shift, TCR bits 1:0 (R15, D12). -/
def Channel.shift (ch : Channel) : Nat := (ch.control.extractLsb' 0 2).toNat

/-- The auto-clear mode, TCR bits 6:5 (R15). -/
def Channel.cclr (ch : Channel) : BitVec 2 := ch.control.extractLsb' 5 2

/-- The transmit-timer arm bit of an SCR value, bit 5 (R25). -/
def armBit (control : Byte) : Bool := control.getLsbD 5

/-- The transmit-interrupt-enable bit of an SCR value, bit 7 (R25). -/
def txIntEnable (control : Byte) : Bool := control.getLsbD 7

/-- The receive-full flag of an SSR value, bit 6 (R28). -/
def receiveFull (status : Byte) : Bool := status.getLsbD 6

end Sys2Proof.Machine
end

