-- ==== Sys2Proof/Machine/Flags.lean ====
section
/-! DEFINITION. Every flag computation of the spec: the sticky flags of a timer channel at one sub-tick (40_timer_tick.md R64 to R67)
and the flags of SSR (43_serial_bus.md R114, 42_serial_tick.md R110). -/

namespace Sys2Proof.Machine

/-- Compare-match A at sub-tick entry (R65). -/
def Channel.matchA (ch : Channel) : Bool := ch.counter == ch.compareA

/-- Compare-match B at sub-tick entry (R66). -/
def Channel.matchB (ch : Channel) : Bool := ch.counter == ch.compareB

/-- Overflow at sub-tick entry: the counter is 0 and TIER bit 2 is 1, which gates the flag as well (R67, 90_conflicts.md C1, C4). -/
def Channel.overflow (ch : Channel) : Bool := ch.counter == 0 && ch.ie.getLsbD 2

/-- `status | m` when the event happens, `status` otherwise: a tick only ever sets a flag (R18). -/
def setWhen (hit : Bool) (m status : Byte) : Byte := if hit then status ||| m else status

/-- The status register after one sub-tick (R64, steps 2 to 4): bit 0 on a match with A, bit 1 on a match with B, bit 2 on overflow. -/
def Channel.statusAfter (ch : Channel) : Byte :=
  setWhen ch.overflow 0x04 (setWhen ch.matchB 0x02 (setWhen ch.matchA 0x01 ch.status))

/-- `status & 0x7F`: transmit-empty cleared (R114). -/
def clearTransmitEmpty (status : Byte) : Byte := status &&& 0x7F

/-- `status | 0x40`: receive-full set (R110). -/
def setReceiveFull (status : Byte) : Byte := status ||| 0x40

end Sys2Proof.Machine
end

