-- ==== Sys2Proof/Machine/Ops.lean ====
section
/-! DEFINITION. The named operations the meanings share: what an operation returns to the driver, the output trace, a read or
write of a timer register, a read or an update of a serial instance, and taking the driver's next transaction.

There is no "taking an exception" here and no return from one: the devices raise none (60_exceptions.md R125), perform no trap entry
(R133) and have no return from interrupt (R134). Their whole part in an interrupt is the event `Irq(v)` (R128), which
`State.emit` appends to the trace. -/

namespace Sys2Proof.Machine

/-- The outcome of an operation. -/
abbrev Result := Host.Outcome State Fault Refusal

/-- Append events to the output trace, in order (R5, R128). -/
def State.emit (s : State) (es : List Event) : State := { s with trace := s.trace ++ es }

/-- Return a value to the driver (R5). -/
def State.answer (s : State) (r : Returned) : State := { s with returned := r }

/-- A read of a timer register: it returns a byte, changes no state of a device and emits nothing (R45, R76 to R104). -/
def readTimer (r : TmrReg) (s : State) : Result :=
  .next (s.answer (.byte (s.timer.readReg r)))

/-- A write to a timer register (R77 to R105): it stores, emits nothing and returns nothing. -/
def writeTimer (r : TmrReg) (d : Byte) (s : State) : Result :=
  .next ({ s with timer := s.timer.writeReg d r }.answer .none)

/-- An operation that only looks at serial instance `k` and returns a value. An instance that the platform does not have is refused as
its word is (R57). -/
def askSci (k : Fin 8) (f : Sci → Returned) (s : State) : Result :=
  match s.sci[k.val]? with
  | none => .refused (.reserved (.noSuchSci k))
  | some x => .next (s.answer (f x))

/-- An operation that changes serial instance `k` and emits events: `f` gives the instance afterwards and the events in order. It
returns nothing to the driver. -/
def updateSci (k : Fin 8) (f : Sci → Sci × List Event) (s : State) : Result :=
  match s.sci[k.val]? with
  | none => .refused (.reserved (.noSuchSci k))
  | some x => .next (({ s with sci := s.sci.set k.val (f x).1 }.emit (f x).2).answer .none)

/-- A read of a serial register: it returns a byte and changes nothing (R45, R118 to R122). -/
def readSci (k : Fin 8) (r : SciReg) (s : State) : Result := askSci k (fun x => .byte (x.readReg r)) s

/-- The driver's next transaction and the state in which it has been issued, if there is one (R3, R9). -/
def State.fetch (s : State) : Option (Transaction × State) :=
  match s.ops with
  | [] => none
  | t :: rest => some (t, { s with ops := rest })

/-- The machine with the operations of `ls` placed after those that the driver has still to issue. -/
def State.issue (s : State) (ls : List Line) : State := { s with ops := s.ops ++ assemble s.params ls }

end Sys2Proof.Machine
end

