-- ==== Sys2Proof/Machine/SerialBus.lean ====
section
/-! DEFINITION. The serial channel's register access (43_serial_bus.md R113 to R122): the effect of a write on an instance, and
one meaning per row. -/

namespace Sys2Proof.Machine

/-- Write SCR (R113): a 0 to 1 change of bit 5 arms the countdown at 1, a 1 to 0 change disarms it; the byte is stored always. -/
def Sci.writeScr (d : Byte) (x : Sci) : Sci :=
  let timer : Int :=
    if armBit d && !armBit x.control then 1
    else if !armBit d && armBit x.control then 0
    else x.txTimer
  { x with txTimer := timer, control := d }

/-- Write TDR (R114): the byte is stored; unless it is the sentinel it is transmitted, the countdown rearmed and transmit-empty cleared. -/
def Sci.writeTdr (p : Params) (k : Fin 8) (d : Byte) (x : Sci) : Sci × List Event :=
  if d = p.sentinel then ({ x with txData := d }, [])
  else ({ x with txData := d, txTimer := p.clockTime, status := clearTransmitEmpty x.status }, [.tx k d])

/-- A write of `d` to a register of serial instance `k` (R39, R113 to R117): the instance afterwards and the events. -/
def Sci.writeReg (p : Params) (k : Fin 8) (d : Byte) (x : Sci) : SciReg → Sci × List Event
  | .scr => (x.writeScr d, [])
  | .tdr => x.writeTdr p k d
  | .ssr => ({ x with status := d }, [])
  | .rdr => (x, [])
  | .raw01 j => ({ x with raw := x.raw.set (raw01Index j) d }, [])
  | .raw67 j => ({ x with raw := x.raw.set (raw67Index j) d }, [])

/-- A write to a serial register. -/
def writeSci (k : Fin 8) (r : SciReg) (d : Byte) (s : State) : Result :=
  updateSci k (fun x => x.writeReg s.params k d r) s

/-- `RD SCI<k>, SCR` (R118). -/
def execRdSciScr (k : Fin 8) (s : State) : Result := readSci k .scr s

/-- `WR SCI<k>, SCR, d` (R113). -/
def execWrSciScr (k : Fin 8) (d : Byte) (s : State) : Result := writeSci k .scr d s

/-- `RD SCI<k>, TDR` (R119). -/
def execRdSciTdr (k : Fin 8) (s : State) : Result := readSci k .tdr s

/-- `WR SCI<k>, TDR, d` (R114). -/
def execWrSciTdr (k : Fin 8) (d : Byte) (s : State) : Result := writeSci k .tdr d s

/-- `RD SCI<k>, SSR` (R120). -/
def execRdSciSsr (k : Fin 8) (s : State) : Result := readSci k .ssr s

/-- `WR SCI<k>, SSR, d` (R115). -/
def execWrSciSsr (k : Fin 8) (d : Byte) (s : State) : Result := writeSci k .ssr d s

/-- `RD SCI<k>, RDR` (R121). -/
def execRdSciRdr (k : Fin 8) (s : State) : Result := readSci k .rdr s

/-- `WR SCI<k>, RDR, d` (R116). -/
def execWrSciRdr (k : Fin 8) (d : Byte) (s : State) : Result := writeSci k .rdr d s

/-- `RD SCI<k>, <raw 0..1>` (R122). -/
def execRdSciRaw01 (k : Fin 8) (j : Fin 2) (s : State) : Result := readSci k (.raw01 j) s

/-- `WR SCI<k>, <raw 0..1>, d` (R117). -/
def execWrSciRaw01 (k : Fin 8) (j : Fin 2) (d : Byte) (s : State) : Result := writeSci k (.raw01 j) d s

/-- `RD SCI<k>, <raw 6..7>` (R122). -/
def execRdSciRaw67 (k : Fin 8) (j : Fin 2) (s : State) : Result := readSci k (.raw67 j) s

/-- `WR SCI<k>, <raw 6..7>, d` (R117). -/
def execWrSciRaw67 (k : Fin 8) (j : Fin 2) (d : Byte) (s : State) : Result := writeSci k (.raw67 j) d s

end Sys2Proof.Machine
end

