-- ==== Sys2Proof/Machine/SerialHost.lean ====
section
/-! DEFINITION. The serial channel's host operations (44_serial_host.md R123, R124). -/

namespace Sys2Proof.Machine

/-- `SCI[k].send(bs)` (R123): the bytes go to the back of the inbound queue, in order; nothing else happens. -/
def sendSci (k : Fin 8) (bs : List Byte) (s : State) : Result :=
  updateSci k (fun x => ({ x with rxq := x.rxq ++ bs }, [])) s

/-- `SCI[k].hasPendingRX` (R124): whether the inbound queue is non-empty. -/
def pendSci (k : Fin 8) (s : State) : Result := askSci k (fun x => .bool (!x.rxq.isEmpty)) s

/-- `SEND SCIk, bs` (R123). -/
def execSendSci (k : Fin 8) (bs : List Byte) (s : State) : Result := sendSci k bs s

/-- `PEND SCIk` (R124). -/
def execPendSci (k : Fin 8) (s : State) : Result := pendSci k s

end Sys2Proof.Machine
end

