-- ==== Sys2Proof/Machine/SerialTick.lean ====
section
/-! DEFINITION. The serial tick (42_serial_tick.md R106 to R112): the transmit countdown, receive delivery, and the meaning of
`TICK SCIk, c`. -/

namespace Sys2Proof.Machine

/-- Part (a), the transmit countdown, with `e` elapsed cycles (R108, R109): at most one expiry, the overshoot dropped, the interrupt
only when SCR bit 7 is 1. -/
def Sci.countdown (clockTime : Int) (e : Nat) (x : Sci) : Sci × List Event :=
  if 0 < x.txTimer then
    if x.txTimer - (e : Int) ≤ 0 then
      ({ x with txTimer := clockTime }, if txIntEnable x.control then [.irq (54 + x.o)] else [])
    else ({ x with txTimer := x.txTimer - (e : Int) }, [])
  else (x, [])

/-- Part (b), receive delivery (R110): at most one byte, only while receive-full is clear, the interrupt unconditional. -/
def Sci.deliver (x : Sci) : Sci × List Event :=
  match x.rxq with
  | [] => (x, [])
  | b :: rest =>
    if receiveFull x.status then (x, [])
    else ({ x with rxData := b, rxq := rest, status := setReceiveFull x.status }, [.irq (53 + x.o)])

/-- A tick of one instance at cycle `c`, not below its last-sampled one (R106): part (a), then part (b), then `last` (R111, R112). -/
def Sci.tick (clockTime : Int) (c : Nat) (x : Sci) : Sci × List Event :=
  let a := x.countdown clockTime (c - x.last)
  let b := a.1.deliver
  ({ b.1 with last := c }, a.2 ++ b.2)

/-- `SCI[k].tick(c)` (R106): the fault of R107 when `c` is below the instance's last-sampled cycle. -/
def tickSci (k : Fin 8) (c : Nat) (s : State) : Result :=
  match s.sci[k.val]? with
  | none => .refused (.reserved (.noSuchSci k))
  | some x =>
    if c < x.last then .fault .nonMonotonicCycle
    else updateSci k (Sci.tick s.params.clockTime c) s

/-- `TICK SCIk, c` (R106). -/
def execTickSci (k : Fin 8) (c : Nat) (s : State) : Result := tickSci k c s

end Sys2Proof.Machine
end

