-- ==== Sys2Proof/Machine/TimerChannel.lean ====
section
/-! DEFINITION. The channel registers of the timer unit (41_timer_bus.md R84 to R103), one meaning per row: ten byte registers of
each of the five channels, read and written. -/

namespace Sys2Proof.Machine

/-- `RD TMR, TCR0` (R84). -/
def execRdTmrTcr0 (s : State) : Result := readTimer (.chan 0 .tcr) s

/-- `WR TMR, TCR0, d` (R85). -/
def execWrTmrTcr0 (d : Byte) (s : State) : Result := writeTimer (.chan 0 .tcr) d s

/-- `RD TMR, TIOR0` (R86). -/
def execRdTmrTior0 (s : State) : Result := readTimer (.chan 0 .tior) s

/-- `WR TMR, TIOR0, d` (R87). -/
def execWrTmrTior0 (d : Byte) (s : State) : Result := writeTimer (.chan 0 .tior) d s

/-- `RD TMR, TIER0` (R88). -/
def execRdTmrTier0 (s : State) : Result := readTimer (.chan 0 .tier) s

/-- `WR TMR, TIER0, d` (R89). -/
def execWrTmrTier0 (d : Byte) (s : State) : Result := writeTimer (.chan 0 .tier) d s

/-- `RD TMR, TSR0` (R90). -/
def execRdTmrTsr0 (s : State) : Result := readTimer (.chan 0 .tsr) s

/-- `WR TMR, TSR0, d` (R91). -/
def execWrTmrTsr0 (d : Byte) (s : State) : Result := writeTimer (.chan 0 .tsr) d s

/-- `RD TMR, TCNT0H` (R92). -/
def execRdTmrTcnt0H (s : State) : Result := readTimer (.chan 0 .tcntH) s

/-- `WR TMR, TCNT0H, d` (R93). -/
def execWrTmrTcnt0H (d : Byte) (s : State) : Result := writeTimer (.chan 0 .tcntH) d s

/-- `RD TMR, TCNT0L` (R94). -/
def execRdTmrTcnt0L (s : State) : Result := readTimer (.chan 0 .tcntL) s

/-- `WR TMR, TCNT0L, d` (R95). -/
def execWrTmrTcnt0L (d : Byte) (s : State) : Result := writeTimer (.chan 0 .tcntL) d s

/-- `RD TMR, GRA0H` (R96). -/
def execRdTmrGra0H (s : State) : Result := readTimer (.chan 0 .graH) s

/-- `WR TMR, GRA0H, d` (R97). -/
def execWrTmrGra0H (d : Byte) (s : State) : Result := writeTimer (.chan 0 .graH) d s

/-- `RD TMR, GRA0L` (R98). -/
def execRdTmrGra0L (s : State) : Result := readTimer (.chan 0 .graL) s

/-- `WR TMR, GRA0L, d` (R99). -/
def execWrTmrGra0L (d : Byte) (s : State) : Result := writeTimer (.chan 0 .graL) d s

/-- `RD TMR, GRB0H` (R100). -/
def execRdTmrGrb0H (s : State) : Result := readTimer (.chan 0 .grbH) s

/-- `WR TMR, GRB0H, d` (R101). -/
def execWrTmrGrb0H (d : Byte) (s : State) : Result := writeTimer (.chan 0 .grbH) d s

/-- `RD TMR, GRB0L` (R102). -/
def execRdTmrGrb0L (s : State) : Result := readTimer (.chan 0 .grbL) s

/-- `WR TMR, GRB0L, d` (R103). -/
def execWrTmrGrb0L (d : Byte) (s : State) : Result := writeTimer (.chan 0 .grbL) d s

/-- `RD TMR, TCR1` (R84). -/
def execRdTmrTcr1 (s : State) : Result := readTimer (.chan 1 .tcr) s

/-- `WR TMR, TCR1, d` (R85). -/
def execWrTmrTcr1 (d : Byte) (s : State) : Result := writeTimer (.chan 1 .tcr) d s

/-- `RD TMR, TIOR1` (R86). -/
def execRdTmrTior1 (s : State) : Result := readTimer (.chan 1 .tior) s

/-- `WR TMR, TIOR1, d` (R87). -/
def execWrTmrTior1 (d : Byte) (s : State) : Result := writeTimer (.chan 1 .tior) d s

/-- `RD TMR, TIER1` (R88). -/
def execRdTmrTier1 (s : State) : Result := readTimer (.chan 1 .tier) s

/-- `WR TMR, TIER1, d` (R89). -/
def execWrTmrTier1 (d : Byte) (s : State) : Result := writeTimer (.chan 1 .tier) d s

/-- `RD TMR, TSR1` (R90). -/
def execRdTmrTsr1 (s : State) : Result := readTimer (.chan 1 .tsr) s

/-- `WR TMR, TSR1, d` (R91). -/
def execWrTmrTsr1 (d : Byte) (s : State) : Result := writeTimer (.chan 1 .tsr) d s

/-- `RD TMR, TCNT1H` (R92). -/
def execRdTmrTcnt1H (s : State) : Result := readTimer (.chan 1 .tcntH) s

/-- `WR TMR, TCNT1H, d` (R93). -/
def execWrTmrTcnt1H (d : Byte) (s : State) : Result := writeTimer (.chan 1 .tcntH) d s

/-- `RD TMR, TCNT1L` (R94). -/
def execRdTmrTcnt1L (s : State) : Result := readTimer (.chan 1 .tcntL) s

/-- `WR TMR, TCNT1L, d` (R95). -/
def execWrTmrTcnt1L (d : Byte) (s : State) : Result := writeTimer (.chan 1 .tcntL) d s

/-- `RD TMR, GRA1H` (R96). -/
def execRdTmrGra1H (s : State) : Result := readTimer (.chan 1 .graH) s

/-- `WR TMR, GRA1H, d` (R97). -/
def execWrTmrGra1H (d : Byte) (s : State) : Result := writeTimer (.chan 1 .graH) d s

/-- `RD TMR, GRA1L` (R98). -/
def execRdTmrGra1L (s : State) : Result := readTimer (.chan 1 .graL) s

/-- `WR TMR, GRA1L, d` (R99). -/
def execWrTmrGra1L (d : Byte) (s : State) : Result := writeTimer (.chan 1 .graL) d s

/-- `RD TMR, GRB1H` (R100). -/
def execRdTmrGrb1H (s : State) : Result := readTimer (.chan 1 .grbH) s

/-- `WR TMR, GRB1H, d` (R101). -/
def execWrTmrGrb1H (d : Byte) (s : State) : Result := writeTimer (.chan 1 .grbH) d s

/-- `RD TMR, GRB1L` (R102). -/
def execRdTmrGrb1L (s : State) : Result := readTimer (.chan 1 .grbL) s

/-- `WR TMR, GRB1L, d` (R103). -/
def execWrTmrGrb1L (d : Byte) (s : State) : Result := writeTimer (.chan 1 .grbL) d s

/-- `RD TMR, TCR2` (R84). -/
def execRdTmrTcr2 (s : State) : Result := readTimer (.chan 2 .tcr) s

/-- `WR TMR, TCR2, d` (R85). -/
def execWrTmrTcr2 (d : Byte) (s : State) : Result := writeTimer (.chan 2 .tcr) d s

/-- `RD TMR, TIOR2` (R86). -/
def execRdTmrTior2 (s : State) : Result := readTimer (.chan 2 .tior) s

/-- `WR TMR, TIOR2, d` (R87). -/
def execWrTmrTior2 (d : Byte) (s : State) : Result := writeTimer (.chan 2 .tior) d s

/-- `RD TMR, TIER2` (R88). -/
def execRdTmrTier2 (s : State) : Result := readTimer (.chan 2 .tier) s

/-- `WR TMR, TIER2, d` (R89). -/
def execWrTmrTier2 (d : Byte) (s : State) : Result := writeTimer (.chan 2 .tier) d s

/-- `RD TMR, TSR2` (R90). -/
def execRdTmrTsr2 (s : State) : Result := readTimer (.chan 2 .tsr) s

/-- `WR TMR, TSR2, d` (R91). -/
def execWrTmrTsr2 (d : Byte) (s : State) : Result := writeTimer (.chan 2 .tsr) d s

/-- `RD TMR, TCNT2H` (R92). -/
def execRdTmrTcnt2H (s : State) : Result := readTimer (.chan 2 .tcntH) s

/-- `WR TMR, TCNT2H, d` (R93). -/
def execWrTmrTcnt2H (d : Byte) (s : State) : Result := writeTimer (.chan 2 .tcntH) d s

/-- `RD TMR, TCNT2L` (R94). -/
def execRdTmrTcnt2L (s : State) : Result := readTimer (.chan 2 .tcntL) s

/-- `WR TMR, TCNT2L, d` (R95). -/
def execWrTmrTcnt2L (d : Byte) (s : State) : Result := writeTimer (.chan 2 .tcntL) d s

/-- `RD TMR, GRA2H` (R96). -/
def execRdTmrGra2H (s : State) : Result := readTimer (.chan 2 .graH) s

/-- `WR TMR, GRA2H, d` (R97). -/
def execWrTmrGra2H (d : Byte) (s : State) : Result := writeTimer (.chan 2 .graH) d s

/-- `RD TMR, GRA2L` (R98). -/
def execRdTmrGra2L (s : State) : Result := readTimer (.chan 2 .graL) s

/-- `WR TMR, GRA2L, d` (R99). -/
def execWrTmrGra2L (d : Byte) (s : State) : Result := writeTimer (.chan 2 .graL) d s

/-- `RD TMR, GRB2H` (R100). -/
def execRdTmrGrb2H (s : State) : Result := readTimer (.chan 2 .grbH) s

/-- `WR TMR, GRB2H, d` (R101). -/
def execWrTmrGrb2H (d : Byte) (s : State) : Result := writeTimer (.chan 2 .grbH) d s

/-- `RD TMR, GRB2L` (R102). -/
def execRdTmrGrb2L (s : State) : Result := readTimer (.chan 2 .grbL) s

/-- `WR TMR, GRB2L, d` (R103). -/
def execWrTmrGrb2L (d : Byte) (s : State) : Result := writeTimer (.chan 2 .grbL) d s

/-- `RD TMR, TCR3` (R84). -/
def execRdTmrTcr3 (s : State) : Result := readTimer (.chan 3 .tcr) s

/-- `WR TMR, TCR3, d` (R85). -/
def execWrTmrTcr3 (d : Byte) (s : State) : Result := writeTimer (.chan 3 .tcr) d s

/-- `RD TMR, TIOR3` (R86). -/
def execRdTmrTior3 (s : State) : Result := readTimer (.chan 3 .tior) s

/-- `WR TMR, TIOR3, d` (R87). -/
def execWrTmrTior3 (d : Byte) (s : State) : Result := writeTimer (.chan 3 .tior) d s

/-- `RD TMR, TIER3` (R88). -/
def execRdTmrTier3 (s : State) : Result := readTimer (.chan 3 .tier) s

/-- `WR TMR, TIER3, d` (R89). -/
def execWrTmrTier3 (d : Byte) (s : State) : Result := writeTimer (.chan 3 .tier) d s

/-- `RD TMR, TSR3` (R90). -/
def execRdTmrTsr3 (s : State) : Result := readTimer (.chan 3 .tsr) s

/-- `WR TMR, TSR3, d` (R91). -/
def execWrTmrTsr3 (d : Byte) (s : State) : Result := writeTimer (.chan 3 .tsr) d s

/-- `RD TMR, TCNT3H` (R92). -/
def execRdTmrTcnt3H (s : State) : Result := readTimer (.chan 3 .tcntH) s

/-- `WR TMR, TCNT3H, d` (R93). -/
def execWrTmrTcnt3H (d : Byte) (s : State) : Result := writeTimer (.chan 3 .tcntH) d s

/-- `RD TMR, TCNT3L` (R94). -/
def execRdTmrTcnt3L (s : State) : Result := readTimer (.chan 3 .tcntL) s

/-- `WR TMR, TCNT3L, d` (R95). -/
def execWrTmrTcnt3L (d : Byte) (s : State) : Result := writeTimer (.chan 3 .tcntL) d s

/-- `RD TMR, GRA3H` (R96). -/
def execRdTmrGra3H (s : State) : Result := readTimer (.chan 3 .graH) s

/-- `WR TMR, GRA3H, d` (R97). -/
def execWrTmrGra3H (d : Byte) (s : State) : Result := writeTimer (.chan 3 .graH) d s

/-- `RD TMR, GRA3L` (R98). -/
def execRdTmrGra3L (s : State) : Result := readTimer (.chan 3 .graL) s

/-- `WR TMR, GRA3L, d` (R99). -/
def execWrTmrGra3L (d : Byte) (s : State) : Result := writeTimer (.chan 3 .graL) d s

/-- `RD TMR, GRB3H` (R100). -/
def execRdTmrGrb3H (s : State) : Result := readTimer (.chan 3 .grbH) s

/-- `WR TMR, GRB3H, d` (R101). -/
def execWrTmrGrb3H (d : Byte) (s : State) : Result := writeTimer (.chan 3 .grbH) d s

/-- `RD TMR, GRB3L` (R102). -/
def execRdTmrGrb3L (s : State) : Result := readTimer (.chan 3 .grbL) s

/-- `WR TMR, GRB3L, d` (R103). -/
def execWrTmrGrb3L (d : Byte) (s : State) : Result := writeTimer (.chan 3 .grbL) d s

/-- `RD TMR, TCR4` (R84). -/
def execRdTmrTcr4 (s : State) : Result := readTimer (.chan 4 .tcr) s

/-- `WR TMR, TCR4, d` (R85). -/
def execWrTmrTcr4 (d : Byte) (s : State) : Result := writeTimer (.chan 4 .tcr) d s

/-- `RD TMR, TIOR4` (R86). -/
def execRdTmrTior4 (s : State) : Result := readTimer (.chan 4 .tior) s

/-- `WR TMR, TIOR4, d` (R87). -/
def execWrTmrTior4 (d : Byte) (s : State) : Result := writeTimer (.chan 4 .tior) d s

/-- `RD TMR, TIER4` (R88). -/
def execRdTmrTier4 (s : State) : Result := readTimer (.chan 4 .tier) s

/-- `WR TMR, TIER4, d` (R89). -/
def execWrTmrTier4 (d : Byte) (s : State) : Result := writeTimer (.chan 4 .tier) d s

/-- `RD TMR, TSR4` (R90). -/
def execRdTmrTsr4 (s : State) : Result := readTimer (.chan 4 .tsr) s

/-- `WR TMR, TSR4, d` (R91). -/
def execWrTmrTsr4 (d : Byte) (s : State) : Result := writeTimer (.chan 4 .tsr) d s

/-- `RD TMR, TCNT4H` (R92). -/
def execRdTmrTcnt4H (s : State) : Result := readTimer (.chan 4 .tcntH) s

/-- `WR TMR, TCNT4H, d` (R93). -/
def execWrTmrTcnt4H (d : Byte) (s : State) : Result := writeTimer (.chan 4 .tcntH) d s

/-- `RD TMR, TCNT4L` (R94). -/
def execRdTmrTcnt4L (s : State) : Result := readTimer (.chan 4 .tcntL) s

/-- `WR TMR, TCNT4L, d` (R95). -/
def execWrTmrTcnt4L (d : Byte) (s : State) : Result := writeTimer (.chan 4 .tcntL) d s

/-- `RD TMR, GRA4H` (R96). -/
def execRdTmrGra4H (s : State) : Result := readTimer (.chan 4 .graH) s

/-- `WR TMR, GRA4H, d` (R97). -/
def execWrTmrGra4H (d : Byte) (s : State) : Result := writeTimer (.chan 4 .graH) d s

/-- `RD TMR, GRA4L` (R98). -/
def execRdTmrGra4L (s : State) : Result := readTimer (.chan 4 .graL) s

/-- `WR TMR, GRA4L, d` (R99). -/
def execWrTmrGra4L (d : Byte) (s : State) : Result := writeTimer (.chan 4 .graL) d s

/-- `RD TMR, GRB4H` (R100). -/
def execRdTmrGrb4H (s : State) : Result := readTimer (.chan 4 .grbH) s

/-- `WR TMR, GRB4H, d` (R101). -/
def execWrTmrGrb4H (d : Byte) (s : State) : Result := writeTimer (.chan 4 .grbH) d s

/-- `RD TMR, GRB4L` (R102). -/
def execRdTmrGrb4L (s : State) : Result := readTimer (.chan 4 .grbL) s

/-- `WR TMR, GRB4L, d` (R103). -/
def execWrTmrGrb4L (d : Byte) (s : State) : Result := writeTimer (.chan 4 .grbL) d s

end Sys2Proof.Machine
end

