-- ==== Sys2Proof/Machine/TimerScratch.lean ====
section
/-! DEFINITION. The scratch offsets of the timer's window (41_timer_bus.md R104, R105), one meaning per row. -/

namespace Sys2Proof.Machine

/-- `RD TMR, <scratch 0x2C..0x2F>` (R104). -/
def execRdTmrScratch2C (j : Fin 4) (s : State) : Result := readTimer (.scratch2C j) s

/-- `WR TMR, <scratch 0x2C..0x2F>, d` (R105). -/
def execWrTmrScratch2C (j : Fin 4) (d : Byte) (s : State) : Result := writeTimer (.scratch2C j) d s

/-- `RD TMR, <scratch 0x30..0x31>` (R104). -/
def execRdTmrScratch30 (j : Fin 2) (s : State) : Result := readTimer (.scratch30 j) s

/-- `WR TMR, <scratch 0x30..0x31>, d` (R105). -/
def execWrTmrScratch30 (j : Fin 2) (d : Byte) (s : State) : Result := writeTimer (.scratch30 j) d s

/-- `RD TMR, <scratch 0x3C..0x3F>` (R104). -/
def execRdTmrScratch3C (j : Fin 4) (s : State) : Result := readTimer (.scratch3C j) s

/-- `WR TMR, <scratch 0x3C..0x3F>, d` (R105). -/
def execWrTmrScratch3C (j : Fin 4) (d : Byte) (s : State) : Result := writeTimer (.scratch3C j) d s

end Sys2Proof.Machine
end

