-- ==== Sys2Proof/Machine/TimerTick.lean ====
section
/-! DEFINITION. The timer tick (40_timer_tick.md R60 to R72): the sub-tick of a channel, its repetition, the loop over the five
channels, and the meaning of `TICK TMR, c`. -/

namespace Sys2Proof.Machine

/-- Steps 1, 2 and 3 of a sub-tick on the next counter value: `cnt + 1` modulo 65536, or 0 when a match with its clear pattern
forces it (R64, R65, R66, R68, R72). -/
def Channel.nextCounter (ch : Channel) : Half :=
  if (ch.matchA && ch.cclr == Config.cclrOnA) || (ch.matchB && ch.cclr == Config.cclrOnB) then 0 else ch.counter + 1

/-- One interrupt, when it is to be raised. -/
def raiseWhen (hit : Bool) (v : Nat) : List Event := if hit then [.irq v] else []

/-- The events of one sub-tick of channel `i`: A, then B, then overflow, each only with its enable bit (R65, R66, R67, R70, R129). -/
def Channel.eventsOf (i : Fin 5) (ch : Channel) : List Event :=
  raiseWhen (ch.matchA && ch.ie.getLsbD 0) (24 + 4 * i.val) ++
  raiseWhen (ch.matchB && ch.ie.getLsbD 1) (25 + 4 * i.val) ++
  raiseWhen ch.overflow (26 + 4 * i.val)

/-- One sub-tick (R64): only the counter and the status change, and every comparison reads the counter as it stood at entry. -/
def Channel.subtick (ch : Channel) : Channel :=
  { ch with status := ch.statusAfter, counter := ch.nextCounter }

/-- `n` sub-ticks in order (R60): the channel afterwards and the events in order. -/
def Channel.subticks (i : Fin 5) : Nat → Channel → Channel × List Event
  | 0, ch => (ch, [])
  | n + 1, ch =>
    let later := Channel.subticks i n ch.subtick
    (later.1, ch.eventsOf i ++ later.2)

/-- The number of sub-ticks between two cycle values at a shift: `(c >> s) - (snap >> s)` (R63). -/
def subtickCount (shift snap c : Nat) : Nat := (c >>> shift) - (snap >>> shift)

/-- What a tick at `c` makes of channel `i`: its sub-ticks when it runs, nothing at all when it does not (R60, R63, R71). -/
def Timer.tickChannel (t : Timer) (c : Nat) (i : Fin 5) : Channel × List Event :=
  if t.runs i then Channel.subticks i (subtickCount (t.ch[i]).shift t.snap c) t.ch[i] else (t.ch[i], [])

/-- One pass of the loop over the channels (R60). -/
def tickOne (c : Nat) (s : State) (i : Fin 5) : State :=
  let r := s.timer.tickChannel c i
  { s with timer := { s.timer with ch := s.timer.ch.set i r.1 } }.emit r.2

/-- The channels in the order in which a tick visits them (R60, R70). -/
def channelOrder : List (Fin 5) := [0, 1, 2, 3, 4]

/-- `TMR.tick(c)` (R60): the fault of R62, or the five channels in ascending order and then the snapshot (R69). -/
def tickTimer (c : Nat) (s : State) : Result :=
  if c < s.timer.snap then .fault .nonMonotonicCycle
  else
    let s' := channelOrder.foldl (tickOne c) s
    .next ({ s' with timer := { s'.timer with snap := c } }.answer .none)

/-- `TICK TMR, c` (R60). -/
def execTickTmr (c : Nat) (s : State) : Result := tickTimer c s

end Sys2Proof.Machine
end

