-- ==== Sys2Proof/Machine/TimerWindow.lean ====
section
/-! DEFINITION. Out-of-window accesses of the timer unit (41_timer_bus.md R73 to R75) and its four global bytes (R76 to R83),
one meaning per row. -/

namespace Sys2Proof.Machine

/-- A read outside the timer's window returns 0 and reads no state (R73). -/
def readOutside (s : State) : Result := .next (s.answer (.byte 0x00))

/-- A write outside the timer's window is ignored, whatever the byte (R74). -/
def writeOutside (_d : Byte) (s : State) : Result := .next (s.answer .none)

/-- `RD TMR, @<out-of-window>` (R73). -/
def execRdTmrOut (s : State) : Result := readOutside s

/-- `WR TMR, @<out-of-window>, d` (R74). -/
def execWrTmrOut (d : Byte) (s : State) : Result := writeOutside d s

/-- `RD TMR, TSTR` (R76). -/
def execRdTmrTstr (s : State) : Result := readTimer .tstr s

/-- `WR TMR, TSTR, d` (R77). -/
def execWrTmrTstr (d : Byte) (s : State) : Result := writeTimer .tstr d s

/-- `RD TMR, TSNC` (R78). -/
def execRdTmrTsnc (s : State) : Result := readTimer .tsnc s

/-- `WR TMR, TSNC, d` (R79). -/
def execWrTmrTsnc (d : Byte) (s : State) : Result := writeTimer .tsnc d s

/-- `RD TMR, TMDR` (R80). -/
def execRdTmrTmdr (s : State) : Result := readTimer .tmdr s

/-- `WR TMR, TMDR, d` (R81). -/
def execWrTmrTmdr (d : Byte) (s : State) : Result := writeTimer .tmdr d s

/-- `RD TMR, TFCR` (R82). -/
def execRdTmrTfcr (s : State) : Result := readTimer .tfcr s

/-- `WR TMR, TFCR, d` (R83). -/
def execWrTmrTfcr (d : Byte) (s : State) : Result := writeTimer .tfcr d s

end Sys2Proof.Machine
end

