-- ==== Sys2Proof/Machine/Dispatch.lean ====
section
/-! DEFINITION. The dispatch: one arm per row of the opcode table, each one direct call of that row's meaning. -/

namespace Sys2Proof.Machine

def exec (i : Instr) (s : State) : Host.Outcome State Fault Refusal :=
  match i with
  | .rdTmrOut => Sys2Proof.Machine.execRdTmrOut s
  | .wrTmrOut d => Sys2Proof.Machine.execWrTmrOut d s
  | .rdTmrTstr => Sys2Proof.Machine.execRdTmrTstr s
  | .wrTmrTstr d => Sys2Proof.Machine.execWrTmrTstr d s
  | .rdTmrTsnc => Sys2Proof.Machine.execRdTmrTsnc s
  | .wrTmrTsnc d => Sys2Proof.Machine.execWrTmrTsnc d s
  | .rdTmrTmdr => Sys2Proof.Machine.execRdTmrTmdr s
  | .wrTmrTmdr d => Sys2Proof.Machine.execWrTmrTmdr d s
  | .rdTmrTfcr => Sys2Proof.Machine.execRdTmrTfcr s
  | .wrTmrTfcr d => Sys2Proof.Machine.execWrTmrTfcr d s
  | .rdTmrTcr0 => Sys2Proof.Machine.execRdTmrTcr0 s
  | .wrTmrTcr0 d => Sys2Proof.Machine.execWrTmrTcr0 d s
  | .rdTmrTior0 => Sys2Proof.Machine.execRdTmrTior0 s
  | .wrTmrTior0 d => Sys2Proof.Machine.execWrTmrTior0 d s
  | .rdTmrTier0 => Sys2Proof.Machine.execRdTmrTier0 s
  | .wrTmrTier0 d => Sys2Proof.Machine.execWrTmrTier0 d s
  | .rdTmrTsr0 => Sys2Proof.Machine.execRdTmrTsr0 s
  | .wrTmrTsr0 d => Sys2Proof.Machine.execWrTmrTsr0 d s
  | .rdTmrTcnt0H => Sys2Proof.Machine.execRdTmrTcnt0H s
  | .wrTmrTcnt0H d => Sys2Proof.Machine.execWrTmrTcnt0H d s
  | .rdTmrTcnt0L => Sys2Proof.Machine.execRdTmrTcnt0L s
  | .wrTmrTcnt0L d => Sys2Proof.Machine.execWrTmrTcnt0L d s
  | .rdTmrGra0H => Sys2Proof.Machine.execRdTmrGra0H s
  | .wrTmrGra0H d => Sys2Proof.Machine.execWrTmrGra0H d s
  | .rdTmrGra0L => Sys2Proof.Machine.execRdTmrGra0L s
  | .wrTmrGra0L d => Sys2Proof.Machine.execWrTmrGra0L d s
  | .rdTmrGrb0H => Sys2Proof.Machine.execRdTmrGrb0H s
  | .wrTmrGrb0H d => Sys2Proof.Machine.execWrTmrGrb0H d s
  | .rdTmrGrb0L => Sys2Proof.Machine.execRdTmrGrb0L s
  | .wrTmrGrb0L d => Sys2Proof.Machine.execWrTmrGrb0L d s
  | .rdTmrTcr1 => Sys2Proof.Machine.execRdTmrTcr1 s
  | .wrTmrTcr1 d => Sys2Proof.Machine.execWrTmrTcr1 d s
  | .rdTmrTior1 => Sys2Proof.Machine.execRdTmrTior1 s
  | .wrTmrTior1 d => Sys2Proof.Machine.execWrTmrTior1 d s
  | .rdTmrTier1 => Sys2Proof.Machine.execRdTmrTier1 s
  | .wrTmrTier1 d => Sys2Proof.Machine.execWrTmrTier1 d s
  | .rdTmrTsr1 => Sys2Proof.Machine.execRdTmrTsr1 s
  | .wrTmrTsr1 d => Sys2Proof.Machine.execWrTmrTsr1 d s
  | .rdTmrTcnt1H => Sys2Proof.Machine.execRdTmrTcnt1H s
  | .wrTmrTcnt1H d => Sys2Proof.Machine.execWrTmrTcnt1H d s
  | .rdTmrTcnt1L => Sys2Proof.Machine.execRdTmrTcnt1L s
  | .wrTmrTcnt1L d => Sys2Proof.Machine.execWrTmrTcnt1L d s
  | .rdTmrGra1H => Sys2Proof.Machine.execRdTmrGra1H s
  | .wrTmrGra1H d => Sys2Proof.Machine.execWrTmrGra1H d s
  | .rdTmrGra1L => Sys2Proof.Machine.execRdTmrGra1L s
  | .wrTmrGra1L d => Sys2Proof.Machine.execWrTmrGra1L d s
  | .rdTmrGrb1H => Sys2Proof.Machine.execRdTmrGrb1H s
  | .wrTmrGrb1H d => Sys2Proof.Machine.execWrTmrGrb1H d s
  | .rdTmrGrb1L => Sys2Proof.Machine.execRdTmrGrb1L s
  | .wrTmrGrb1L d => Sys2Proof.Machine.execWrTmrGrb1L d s
  | .rdTmrTcr2 => Sys2Proof.Machine.execRdTmrTcr2 s
  | .wrTmrTcr2 d => Sys2Proof.Machine.execWrTmrTcr2 d s
  | .rdTmrTior2 => Sys2Proof.Machine.execRdTmrTior2 s
  | .wrTmrTior2 d => Sys2Proof.Machine.execWrTmrTior2 d s
  | .rdTmrTier2 => Sys2Proof.Machine.execRdTmrTier2 s
  | .wrTmrTier2 d => Sys2Proof.Machine.execWrTmrTier2 d s
  | .rdTmrTsr2 => Sys2Proof.Machine.execRdTmrTsr2 s
  | .wrTmrTsr2 d => Sys2Proof.Machine.execWrTmrTsr2 d s
  | .rdTmrTcnt2H => Sys2Proof.Machine.execRdTmrTcnt2H s
  | .wrTmrTcnt2H d => Sys2Proof.Machine.execWrTmrTcnt2H d s
  | .rdTmrTcnt2L => Sys2Proof.Machine.execRdTmrTcnt2L s
  | .wrTmrTcnt2L d => Sys2Proof.Machine.execWrTmrTcnt2L d s
  | .rdTmrGra2H => Sys2Proof.Machine.execRdTmrGra2H s
  | .wrTmrGra2H d => Sys2Proof.Machine.execWrTmrGra2H d s
  | .rdTmrGra2L => Sys2Proof.Machine.execRdTmrGra2L s
  | .wrTmrGra2L d => Sys2Proof.Machine.execWrTmrGra2L d s
  | .rdTmrGrb2H => Sys2Proof.Machine.execRdTmrGrb2H s
  | .wrTmrGrb2H d => Sys2Proof.Machine.execWrTmrGrb2H d s
  | .rdTmrGrb2L => Sys2Proof.Machine.execRdTmrGrb2L s
  | .wrTmrGrb2L d => Sys2Proof.Machine.execWrTmrGrb2L d s
  | .rdTmrTcr3 => Sys2Proof.Machine.execRdTmrTcr3 s
  | .wrTmrTcr3 d => Sys2Proof.Machine.execWrTmrTcr3 d s
  | .rdTmrTior3 => Sys2Proof.Machine.execRdTmrTior3 s
  | .wrTmrTior3 d => Sys2Proof.Machine.execWrTmrTior3 d s
  | .rdTmrTier3 => Sys2Proof.Machine.execRdTmrTier3 s
  | .wrTmrTier3 d => Sys2Proof.Machine.execWrTmrTier3 d s
  | .rdTmrTsr3 => Sys2Proof.Machine.execRdTmrTsr3 s
  | .wrTmrTsr3 d => Sys2Proof.Machine.execWrTmrTsr3 d s
  | .rdTmrTcnt3H => Sys2Proof.Machine.execRdTmrTcnt3H s
  | .wrTmrTcnt3H d => Sys2Proof.Machine.execWrTmrTcnt3H d s
  | .rdTmrTcnt3L => Sys2Proof.Machine.execRdTmrTcnt3L s
  | .wrTmrTcnt3L d => Sys2Proof.Machine.execWrTmrTcnt3L d s
  | .rdTmrGra3H => Sys2Proof.Machine.execRdTmrGra3H s
  | .wrTmrGra3H d => Sys2Proof.Machine.execWrTmrGra3H d s
  | .rdTmrGra3L => Sys2Proof.Machine.execRdTmrGra3L s
  | .wrTmrGra3L d => Sys2Proof.Machine.execWrTmrGra3L d s
  | .rdTmrGrb3H => Sys2Proof.Machine.execRdTmrGrb3H s
  | .wrTmrGrb3H d => Sys2Proof.Machine.execWrTmrGrb3H d s
  | .rdTmrGrb3L => Sys2Proof.Machine.execRdTmrGrb3L s
  | .wrTmrGrb3L d => Sys2Proof.Machine.execWrTmrGrb3L d s
  | .rdTmrTcr4 => Sys2Proof.Machine.execRdTmrTcr4 s
  | .wrTmrTcr4 d => Sys2Proof.Machine.execWrTmrTcr4 d s
  | .rdTmrTior4 => Sys2Proof.Machine.execRdTmrTior4 s
  | .wrTmrTior4 d => Sys2Proof.Machine.execWrTmrTior4 d s
  | .rdTmrTier4 => Sys2Proof.Machine.execRdTmrTier4 s
  | .wrTmrTier4 d => Sys2Proof.Machine.execWrTmrTier4 d s
  | .rdTmrTsr4 => Sys2Proof.Machine.execRdTmrTsr4 s
  | .wrTmrTsr4 d => Sys2Proof.Machine.execWrTmrTsr4 d s
  | .rdTmrTcnt4H => Sys2Proof.Machine.execRdTmrTcnt4H s
  | .wrTmrTcnt4H d => Sys2Proof.Machine.execWrTmrTcnt4H d s
  | .rdTmrTcnt4L => Sys2Proof.Machine.execRdTmrTcnt4L s
  | .wrTmrTcnt4L d => Sys2Proof.Machine.execWrTmrTcnt4L d s
  | .rdTmrGra4H => Sys2Proof.Machine.execRdTmrGra4H s
  | .wrTmrGra4H d => Sys2Proof.Machine.execWrTmrGra4H d s
  | .rdTmrGra4L => Sys2Proof.Machine.execRdTmrGra4L s
  | .wrTmrGra4L d => Sys2Proof.Machine.execWrTmrGra4L d s
  | .rdTmrGrb4H => Sys2Proof.Machine.execRdTmrGrb4H s
  | .wrTmrGrb4H d => Sys2Proof.Machine.execWrTmrGrb4H d s
  | .rdTmrGrb4L => Sys2Proof.Machine.execRdTmrGrb4L s
  | .wrTmrGrb4L d => Sys2Proof.Machine.execWrTmrGrb4L d s
  | .rdTmrScratch2C j => Sys2Proof.Machine.execRdTmrScratch2C j s
  | .wrTmrScratch2C j d => Sys2Proof.Machine.execWrTmrScratch2C j d s
  | .rdTmrScratch30 j => Sys2Proof.Machine.execRdTmrScratch30 j s
  | .wrTmrScratch30 j d => Sys2Proof.Machine.execWrTmrScratch30 j d s
  | .rdTmrScratch3C j => Sys2Proof.Machine.execRdTmrScratch3C j s
  | .wrTmrScratch3C j d => Sys2Proof.Machine.execWrTmrScratch3C j d s
  | .rdSciScr k => Sys2Proof.Machine.execRdSciScr k s
  | .wrSciScr k d => Sys2Proof.Machine.execWrSciScr k d s
  | .rdSciTdr k => Sys2Proof.Machine.execRdSciTdr k s
  | .wrSciTdr k d => Sys2Proof.Machine.execWrSciTdr k d s
  | .rdSciSsr k => Sys2Proof.Machine.execRdSciSsr k s
  | .wrSciSsr k d => Sys2Proof.Machine.execWrSciSsr k d s
  | .rdSciRdr k => Sys2Proof.Machine.execRdSciRdr k s
  | .wrSciRdr k d => Sys2Proof.Machine.execWrSciRdr k d s
  | .rdSciRaw01 k j => Sys2Proof.Machine.execRdSciRaw01 k j s
  | .wrSciRaw01 k j d => Sys2Proof.Machine.execWrSciRaw01 k j d s
  | .rdSciRaw67 k j => Sys2Proof.Machine.execRdSciRaw67 k j s
  | .wrSciRaw67 k j d => Sys2Proof.Machine.execWrSciRaw67 k j d s
  | .tickTmr c => Sys2Proof.Machine.execTickTmr c s
  | .tickSci k c => Sys2Proof.Machine.execTickSci k c s
  | .sendSci k bs => Sys2Proof.Machine.execSendSci k bs s
  | .pendSci k => Sys2Proof.Machine.execPendSci k s

end Sys2Proof.Machine
end

