-- ==== Sys2Proof/Machine/Step.lean ====
section
/-! DEFINITION. One step: the driver issues its next operation and the device performs it, whole (20_memory.md R46, R47). -/

namespace Sys2Proof.Machine

/-- One step. With no operation left to issue nothing happens (00_scope.md R3, 60_exceptions.md R136; notes/assumptions/2.md); a
reserved word is refused (30_encoding.md R57); otherwise the decoded operation is performed. -/
def step (s : State) : Host.Outcome State Fault Refusal :=
  match s.fetch with
  | none => .next s
  | some (t, s') =>
    match decode s.sci.length t with
    | .error r => .refused (.reserved r)
    | .ok i => exec i s'

/-- The machine whose driver issues next the operation with the bits `w`, every operand beside the word zero or empty
(notes/assumptions/1.md and 6.md). Everything else is as it was. -/
def State.withFetchWord (s : State) (nbits w : Nat) : State :=
  { s with ops := Transaction.ofBits nbits w :: s.ops }

end Sys2Proof.Machine
end

