-- ==== Sys2Proof/Machine/Contract.lean ====
section
/-! DEFINITION. The device contract above the words: which device an address belongs to (20_memory.md R35, R40), what a read of one byte
of the bus address space gives, and what each operation of the driver does when it is taken at its address instead of through its
transaction word (00_scope.md R1; 40 to 44). The fallback device is outside the spec (notes/assumptions/10.md). -/

namespace Sys2Proof.Machine

/-- The device that the bus routes an address to (R40). -/
inductive Route where
  | timer
  | sci (k : Fin 8)
  | fallback
  deriving DecidableEq, Repr

/-- The address is in serial instance `k`'s window (R40). -/
def inSciWindow (p : Params) (k : Fin 8) (a : Addr) : Bool :=
  match p.sci[k.val]? with
  | some q => decide (q.base.toNat ≤ a.toNat) && decide (a.toNat ≤ q.base.toNat + 7)
  | none => false

/-- The instance numbers that a transaction word can carry (R52). -/
def sciNumbers : List (Fin 8) := [0, 1, 2, 3, 4, 5, 6, 7]

/-- Bus routing as R40 assumes it. -/
def route (p : Params) (a : Addr) : Route :=
  if inTimerWindow p a then .timer
  else match sciNumbers.find? fun k => inSciWindow p k a with
    | some k => .sci k
    | none => .fallback

/-- `MemRead(addr, 1)` as an operation of the driver; none where the address belongs to the fallback device (R40). -/
def memReadOp (p : Params) (a : Addr) : Option Op :=
  match route p a with
  | .timer => some (.tmrRead a)
  | .sci k => some (.sciRead k a)
  | .fallback => none

/-- `MemWrite(addr, 1, d)` as an operation of the driver; none where the address belongs to the fallback device (R40). -/
def memWriteOp (p : Params) (a : Addr) (d : Byte) : Option Op :=
  match route p a with
  | .timer => some (.tmrWrite a d)
  | .sci k => some (.sciWrite k a d)
  | .fallback => none

/-- The byte that a read of bus address `a` would return, none where no device of the spec claims the address (R36, R39, R40). -/
def State.byteAt (s : State) (a : Addr) : Option Byte :=
  match route s.params a with
  | .timer => some (s.timer.readReg (tmrReg (timerOffset s.params a)))
  | .sci k =>
    match s.sci[k.val]? with
    | some x => some (x.readReg (sciReg (sciOffset a)))
    | none => none
  | .fallback => none

/-- What an operation of the driver does, by the device contract: the timer checks its window itself (R35, R73, R74), a serial instance
masks the address (R38). -/
def applyOp (op : Op) (s : State) : Result :=
  match op with
  | .tmrRead a => if inTimerWindow s.params a then readTimer (tmrReg (timerOffset s.params a)) s else readOutside s
  | .tmrWrite a d => if inTimerWindow s.params a then writeTimer (tmrReg (timerOffset s.params a)) d s else writeOutside d s
  | .sciRead k a => readSci k (sciReg (sciOffset a)) s
  | .sciWrite k a d => writeSci k (sciReg (sciOffset a)) d s
  | .tmrTick c => tickTimer c s
  | .sciTick k c => tickSci k c s
  | .sciSend k bs => sendSci k bs s
  | .sciPend k => pendSci k s

end Sys2Proof.Machine
end

