-- ==== Sys2Proof/Safety.lean ====
section
/-! DEFINITION. What counts as a safe run and a sound state, in the terms the claims use: the reserved words of 30_encoding.md R57
counted on the word's number, the invariant of the state, the events a device may emit (60_exceptions.md R127), and the driver's duty
(70_reset_and_hazards.md R141). -/

namespace Sys2Proof.Machine

/-- R57 on the number a word is, with `nSci` serial instances: `w / 256` is the class, `w / 64 % 4` bits 7:6, `w / 8 % 8` the instance,
`w % 8` the operation code or offset. -/
def reservedWord (nSci w : Nat) : Bool :=
  w / 256 == 3 ||
  (w / 256 == 1 && (w / 128 % 2 == 0 || decide (nSci ≤ w / 8 % 8))) ||
  (w / 256 == 2 &&
    (w / 64 % 4 != 0 || decide (4 ≤ w % 8) || (w % 8 == 0 && w / 8 % 8 != 0) ||
      (decide (1 ≤ w % 8) && decide (w % 8 ≤ 3) && decide (nSci ≤ w / 8 % 8))))

/-- The state is sound: its parameters are legal (R6, R7, R8), there is one instance per construction entry with its interrupt offset
(R7, R32), no countdown is negative (R30, R108), and no stored cycle value is below CYCLE0 (R24, R31). -/
structure State.Sound (s : State) : Prop where
  legal : s.params.legal
  offsets : s.sci.map Sci.o = s.params.sci.map SciParams.irqOffset
  countdown : ∀ x ∈ s.sci, 0 ≤ x.txTimer
  snap : s.params.cycle0 ≤ s.timer.snap
  last : ∀ x ∈ s.sci, s.params.cycle0 ≤ x.last

/-- The events R127 and R114 allow a machine in state `s`: the fifteen timer vectors, the two vectors of each serial instance, and a
transmitted byte that is not the sentinel, of an instance there is. -/
def State.allows (s : State) : Event → Prop
  | .irq v =>
    (∃ i : Fin 5, v = 24 + 4 * i.val ∨ v = 25 + 4 * i.val ∨ v = 26 + 4 * i.val) ∨
    (∃ x ∈ s.sci, v = 53 + x.o ∨ v = 54 + x.o)
  | .tx k b => k.val < s.sci.length ∧ b ≠ s.params.sentinel

/-- The event is an interrupt of timer channel `i` (R127). -/
def Event.ofChannel (i : Fin 5) (e : Event) : Bool :=
  e == .irq (24 + 4 * i.val) || e == .irq (25 + 4 * i.val) || e == .irq (26 + 4 * i.val)

/-- What the driver's duty says of a list of transactions (R57, R141): no word is reserved, and the cycle values of the ticks of each
device do not go down, from the stored values `snap` and `last` on. -/
def dutifulFrom (nSci : Nat) : (snap : Nat) → (last : List Nat) → List Transaction → Bool
  | _, _, [] => true
  | snap, last, t :: rest =>
    match decode nSci t with
    | .error _ => false
    | .ok (.tickTmr c) => decide (snap ≤ c) && dutifulFrom nSci c last rest
    | .ok (.tickSci k c) => decide (last.getD k.val 0 ≤ c) && dutifulFrom nSci snap (last.set k.val c) rest
    | .ok _ => dutifulFrom nSci snap last rest

/-- The operations still to be issued keep the driver's duty. -/
def State.dutiful (s : State) : Bool := dutifulFrom s.sci.length s.timer.snap (s.sci.map Sci.last) s.ops

/-- The number of sub-ticks that rules R22, R60, R63 and R71 give channel `i` in a tick at `c`. -/
def Timer.subticksDue (t : Timer) (c : Nat) (i : Fin 5) : Nat :=
  let ch := t.ch[i]
  if t.start.getLsbD i.val = true ∧ t.mode.getLsbD i.val = false ∧ ch.control.getLsbD 2 = false then
    c / 2 ^ (ch.control.toNat % 4) - t.snap / 2 ^ (ch.control.toNat % 4)
  else 0

/-- A row that reads a byte of the timer: the word it has, on any platform; what it returns in a state, with nothing else changed; and
what it returns right after construction. -/
def TimerReadRow (w : TWord) (i : Instr) (f : Timer → Byte) (atReset : Byte) : Prop :=
  (∀ n d c bs, decode n { word := w, d := d, c := c, bs := bs } = .ok i) ∧
  (∀ s, exec i s = .next { s with returned := .byte (f s.timer) }) ∧
  (∀ p scratch, f (Timer.resetWith p scratch) = atReset)

/-- A row that writes a byte to the timer: the word it has, on any platform, and what becomes of the timer, with nothing else changed but
the value returned, which is none. -/
def TimerWriteRow (w : TWord) (i : Byte → Instr) (f : Byte → Timer → Timer) : Prop :=
  (∀ n d c bs, decode n { word := w, d := d, c := c, bs := bs } = .ok (i d)) ∧
  (∀ d s, exec (i d) s = .next { s with timer := f d s.timer, returned := .none })

/-- A change of channel `i` alone. -/
def Timer.onChannel (i : Fin 5) (f : Channel → Channel) (t : Timer) : Timer := { t with ch := t.ch.set i (f t.ch[i]) }

/-- A row that reads a byte of serial instance `k`: its word when the instance exists, and what it returns, with nothing else changed. -/
def SciReadRow (w : Nat) (i : Fin 8 → Instr) (f : Sci → Byte) : Prop :=
  ∀ k : Fin 8,
    (∀ n d c bs, k.val < n → decode n { word := BitVec.ofNat 10 (w + 8 * k.val), d := d, c := c, bs := bs } = .ok (i k)) ∧
    (∀ s x, s.sci[k.val]? = some x → exec (i k) s = .next { s with returned := .byte (f x) })

/-- A row that writes a byte to serial instance `k`: its word when the instance exists, and what becomes of the instance and which events
are emitted, with nothing else changed but the value returned, which is none. -/
def SciWriteRow (w : Nat) (i : Fin 8 → Byte → Instr) (f : Params → Fin 8 → Byte → Sci → Sci × List Event) : Prop :=
  ∀ k : Fin 8,
    (∀ n d c bs, k.val < n → decode n { word := BitVec.ofNat 10 (w + 8 * k.val), d := d, c := c, bs := bs } = .ok (i k d)) ∧
    (∀ d s x, s.sci[k.val]? = some x → exec (i k d) s = .next { s with
      sci := s.sci.set k.val (f s.params k d x).1, trace := s.trace ++ (f s.params k d x).2, returned := .none })

end Sys2Proof.Machine
end

