-- ==== Sys2Proof/Certificates/Slice0/Obligations.lean ====
section
/-! DEFINITION. The statements for the provers: each formalises rules of spec/ about the two devices. Ids, titles and the rules cited are
in OBLIGATIONS.json. -/

open Sys2Proof Sys2Proof.Machine

/-- Decoding an encoded operation gives the operation back (derived: 30_encoding.md sections 1 and 3). -/
def Obligations.DecodeOfEncode : Prop :=
  ∀ (n : Nat) (i : Instr), i.wellFormed n = true → decode n (encode i) = .ok i

/-- Every accepted word is the word of the operation it decodes to, but for the ignored bits (derived: 30_encoding.md section 1). -/
def Obligations.EncodeOfDecode : Prop :=
  ∀ (n : Nat) (t : Transaction) (i : Instr), decode n t = .ok i →
    i.wellFormed n = true ∧
    i.word = if t.word.toNat / 128 = 0 then t.word &&& 0x3C0 else t.word

/-- Exactly the words that R57 lists are refused, and no bus address is among them (stated: R57). -/
def Obligations.ReservedWordsAreRefused : Prop :=
  (∀ (n : Nat) (t : Transaction), (∃ r, decode n t = .error r) ↔ reservedWord n t.word.toNat = true) ∧
  (∀ (s : State) (t : Transaction) (rest : List Transaction), s.ops = t :: rest →
    reservedWord s.sci.length t.word.toNat = true → ∃ r, step s = .refused (.reserved r)) ∧
  (∀ (n : Nat) (p : Params) (a : Addr) (d : Byte) (k : Fin 8), k.val < n →
    reservedWord n ((Op.tmrRead a).encode p).word.toNat = false ∧
    reservedWord n ((Op.tmrWrite a d).encode p).word.toNat = false ∧
    reservedWord n ((Op.sciRead k a).encode p).word.toNat = false ∧
    reservedWord n ((Op.sciWrite k a d).encode p).word.toNat = false)

/-- A step performs the decoded operation, on the state in which the driver has issued it (derived: 30_encoding.md section 1, 20_memory.md section 3, 10_state.md section 2). The idle step with no operation left is the model's choice, log entry 2. -/
def Obligations.StepPerformsDecodedOperation : Prop :=
  ∀ (s : State),
    (s.ops = [] → step s = .next s) ∧
    (∀ (t : Transaction) (rest : List Transaction), s.ops = t :: rest →
      (∀ i, decode s.sci.length t = .ok i → step s = exec i { s with ops := rest }) ∧
      (∀ r, decode s.sci.length t = .error r → step s = .refused (.reserved r)))

/-- The spec's example words decode to the operations it names (derived: 95_test_vectors.md section 2.6). -/
def Obligations.WrittenOutWordsDecode : Prop :=
  (decode 2 { word := 0b0000000000, d := 0, c := 0, bs := [] } = .ok .rdTmrOut) ∧
  (decode 2 { word := 0b0000111111, d := 0, c := 0, bs := [] } = .ok .rdTmrOut) ∧
  (decode 2 { word := 0b0001000000, d := 0x12, c := 0, bs := [] } = .ok (.wrTmrOut 0x12)) ∧
  (decode 2 { word := 0b0010000000, d := 0, c := 0, bs := [] } = .ok .rdTmrTstr) ∧
  (decode 2 { word := 0b0011000011, d := 0xC0, c := 0, bs := [] } = .ok (.wrTmrTfcr 0xC0)) ∧
  (decode 2 { word := 0b0010110010, d := 0, c := 0, bs := [] } = .ok .rdTmrTcr4) ∧
  (decode 2 { word := 0b0011101101, d := 0x5A, c := 0, bs := [] } = .ok (.wrTmrScratch2C 1 0x5A)) ∧
  (decode 2 { word := 0b0110001101, d := 0, c := 0, bs := [] } = .ok (.rdSciRdr 1)) ∧
  (decode 2 { word := 0b0111000110, d := 0x77, c := 0, bs := [] } = .ok (.wrSciRaw67 0 0 0x77)) ∧
  (decode 2 { word := 0b1000000000, d := 0, c := 7, bs := [] } = .ok (.tickTmr 7)) ∧
  (decode 2 { word := 0b1000001011, d := 0, c := 0, bs := [] } = .ok (.pendSci 1)) ∧
  (decode 2 { word := 0b0100000000, d := 0, c := 0, bs := [] } = .error .sciBit7Clear) ∧
  (decode 2 { word := 0b0111010010, d := 0, c := 0, bs := [] } = .error (.noSuchSci 2)) ∧
  (decode 2 { word := 0b1000001000, d := 0, c := 0, bs := [] } = .error (.timerTickK 1)) ∧
  (decode 2 { word := 0b1000000100, d := 0, c := 0, bs := [] } = .error .hostOp) ∧
  (decode 2 { word := 0b1001000001, d := 0, c := 0, bs := [] } = .error .hostBits76) ∧
  (decode 2 { word := 0b1100000000, d := 0, c := 0, bs := [] } = .error .class3)

/-- Issuing an encoded operation does what the device contract says at its full address (derived: 30_encoding.md section 1, 20_memory.md sections 1 and 3). For an instance the platform lacks, the refusal on the side of the contract is the model's own (DEDUCED), log entry 8. -/
def Obligations.EncodedOperationMeetsContract : Prop :=
  ∀ (op : Op) (s : State) (rest : List Transaction), s.ops = op.encode s.params :: rest →
    step s = applyOp op { s with ops := rest }

/-- A routed bus read returns the byte at its address and changes nothing else (derived: 20_memory.md sections 1 and 3). -/
def Obligations.BusReadReturnsByteAt : Prop :=
  ∀ (s : State) (a : Addr) (op : Op) (rest : List Transaction), s.Sound → memReadOp s.params a = some op →
    s.ops = op.encode s.params :: rest →
    ∃ b, s.byteAt a = some b ∧ step s = .next { s with ops := rest, returned := .byte b }

/-- A write inside the timer window changes the byte at its own address and no other byte of the bus space (derived: 20_memory.md sections 1, 2 and 3). -/
def Obligations.TimerWriteChangesOneByte : Prop :=
  ∀ (s : State) (a : Addr) (d : Byte) (rest : List Transaction), inTimerWindow s.params a = true →
    s.ops = (Op.tmrWrite a d).encode s.params :: rest →
    ∃ t, step s = .next t ∧
      t.byteAt a = some (if a.toNat - s.params.tmrBase.toNat ∈ [0x05, 0x0F, 0x19, 0x23, 0x33] then 0x00 else d) ∧
      (∀ b, b ≠ a → t.byteAt b = s.byteAt b) ∧
      t.trace = s.trace ∧ t.sci = s.sci ∧ t.timer.snap = s.timer.snap ∧ t.params = s.params ∧ t.ops = rest

/-- An access outside the timer window reads 0x00 or is ignored, and leaves everything as it was (stated: R73, R74, R75). -/
def Obligations.OutOfWindowAccessChangesNothing : Prop :=
  (∀ (n : Nat) (x : Fin 64) d c bs,
    decode n { word := BitVec.ofNat 10 x.val, d := d, c := c, bs := bs } = .ok .rdTmrOut ∧
    decode n { word := BitVec.ofNat 10 (0x040 + x.val), d := d, c := c, bs := bs } = .ok (.wrTmrOut d)) ∧
  (∀ s, exec .rdTmrOut s = .next { s with returned := .byte 0x00 }) ∧
  (∀ d s, exec (.wrTmrOut d) s = .next { s with returned := .none }) ∧
  (∀ (p : Params) (a : Addr) (d : Byte), a.toNat < p.tmrBase.toNat ∨ p.tmrBase.toNat + 0x3F < a.toNat →
    ((Op.tmrRead a).encode p).word = 0x000 ∧ ((Op.tmrWrite a d).encode p).word = 0x040)

/-- Reads of TSTR, TSNC, TMDR and TFCR (stated: R76, R78, R80, R82). -/
def Obligations.GlobalReads : Prop :=
  TimerReadRow 0x080 .rdTmrTstr (fun t => t.start) 0x00 ∧
  TimerReadRow 0x081 .rdTmrTsnc (fun t => t.sync) 0x00 ∧
  TimerReadRow 0x082 .rdTmrTmdr (fun t => t.mode) 0x00 ∧
  TimerReadRow 0x083 .rdTmrTfcr (fun t => t.fc) 0x00

/-- Writes to TSTR, TSNC, TMDR and TFCR (derived: 41_timer_bus.md section 2). -/
def Obligations.GlobalWrites : Prop :=
  TimerWriteRow 0x0C0 .wrTmrTstr (fun d t => { t with start := d }) ∧
  TimerWriteRow 0x0C1 .wrTmrTsnc (fun d t => { t with sync := d }) ∧
  TimerWriteRow 0x0C2 .wrTmrTmdr (fun d t => { t with mode := d }) ∧
  TimerWriteRow 0x0C3 .wrTmrTfcr (fun d t => { t with fc := d })

/-- Reads of TCR, TIOR, TIER and TSR of every channel (stated: R84, R86, R88, R90). -/
def Obligations.ChannelByteReads : Prop :=
  TimerReadRow 0x084 .rdTmrTcr0 (fun t => (t.ch[0]).control) 0x00 ∧
  TimerReadRow 0x08E .rdTmrTcr1 (fun t => (t.ch[1]).control) 0x00 ∧
  TimerReadRow 0x098 .rdTmrTcr2 (fun t => (t.ch[2]).control) 0x00 ∧
  TimerReadRow 0x0A2 .rdTmrTcr3 (fun t => (t.ch[3]).control) 0x00 ∧
  TimerReadRow 0x0B2 .rdTmrTcr4 (fun t => (t.ch[4]).control) 0x00 ∧
  TimerReadRow 0x085 .rdTmrTior0 (fun _ => 0x00) 0x00 ∧
  TimerReadRow 0x08F .rdTmrTior1 (fun _ => 0x00) 0x00 ∧
  TimerReadRow 0x099 .rdTmrTior2 (fun _ => 0x00) 0x00 ∧
  TimerReadRow 0x0A3 .rdTmrTior3 (fun _ => 0x00) 0x00 ∧
  TimerReadRow 0x0B3 .rdTmrTior4 (fun _ => 0x00) 0x00 ∧
  TimerReadRow 0x086 .rdTmrTier0 (fun t => (t.ch[0]).ie) 0x00 ∧
  TimerReadRow 0x090 .rdTmrTier1 (fun t => (t.ch[1]).ie) 0x00 ∧
  TimerReadRow 0x09A .rdTmrTier2 (fun t => (t.ch[2]).ie) 0x00 ∧
  TimerReadRow 0x0A4 .rdTmrTier3 (fun t => (t.ch[3]).ie) 0x00 ∧
  TimerReadRow 0x0B4 .rdTmrTier4 (fun t => (t.ch[4]).ie) 0x00 ∧
  TimerReadRow 0x087 .rdTmrTsr0 (fun t => (t.ch[0]).status) 0x00 ∧
  TimerReadRow 0x091 .rdTmrTsr1 (fun t => (t.ch[1]).status) 0x00 ∧
  TimerReadRow 0x09B .rdTmrTsr2 (fun t => (t.ch[2]).status) 0x00 ∧
  TimerReadRow 0x0A5 .rdTmrTsr3 (fun t => (t.ch[3]).status) 0x00 ∧
  TimerReadRow 0x0B5 .rdTmrTsr4 (fun t => (t.ch[4]).status) 0x00

/-- Byte reads of TCNT, GRA and GRB of every channel (stated: R92, R94, R96, R98, R100, R102). -/
def Obligations.ChannelHalfReads : Prop :=
  TimerReadRow 0x088 .rdTmrTcnt0H (fun t => BitVec.ofNat 8 ((t.ch[0]).counter.toNat / 256)) 0x00 ∧
  TimerReadRow 0x092 .rdTmrTcnt1H (fun t => BitVec.ofNat 8 ((t.ch[1]).counter.toNat / 256)) 0x00 ∧
  TimerReadRow 0x09C .rdTmrTcnt2H (fun t => BitVec.ofNat 8 ((t.ch[2]).counter.toNat / 256)) 0x00 ∧
  TimerReadRow 0x0A6 .rdTmrTcnt3H (fun t => BitVec.ofNat 8 ((t.ch[3]).counter.toNat / 256)) 0x00 ∧
  TimerReadRow 0x0B6 .rdTmrTcnt4H (fun t => BitVec.ofNat 8 ((t.ch[4]).counter.toNat / 256)) 0x00 ∧
  TimerReadRow 0x089 .rdTmrTcnt0L (fun t => BitVec.ofNat 8 ((t.ch[0]).counter.toNat % 256)) 0x00 ∧
  TimerReadRow 0x093 .rdTmrTcnt1L (fun t => BitVec.ofNat 8 ((t.ch[1]).counter.toNat % 256)) 0x00 ∧
  TimerReadRow 0x09D .rdTmrTcnt2L (fun t => BitVec.ofNat 8 ((t.ch[2]).counter.toNat % 256)) 0x00 ∧
  TimerReadRow 0x0A7 .rdTmrTcnt3L (fun t => BitVec.ofNat 8 ((t.ch[3]).counter.toNat % 256)) 0x00 ∧
  TimerReadRow 0x0B7 .rdTmrTcnt4L (fun t => BitVec.ofNat 8 ((t.ch[4]).counter.toNat % 256)) 0x00 ∧
  TimerReadRow 0x08A .rdTmrGra0H (fun t => BitVec.ofNat 8 ((t.ch[0]).compareA.toNat / 256)) 0xFF ∧
  TimerReadRow 0x094 .rdTmrGra1H (fun t => BitVec.ofNat 8 ((t.ch[1]).compareA.toNat / 256)) 0xFF ∧
  TimerReadRow 0x09E .rdTmrGra2H (fun t => BitVec.ofNat 8 ((t.ch[2]).compareA.toNat / 256)) 0xFF ∧
  TimerReadRow 0x0A8 .rdTmrGra3H (fun t => BitVec.ofNat 8 ((t.ch[3]).compareA.toNat / 256)) 0xFF ∧
  TimerReadRow 0x0B8 .rdTmrGra4H (fun t => BitVec.ofNat 8 ((t.ch[4]).compareA.toNat / 256)) 0xFF ∧
  TimerReadRow 0x08B .rdTmrGra0L (fun t => BitVec.ofNat 8 ((t.ch[0]).compareA.toNat % 256)) 0xFF ∧
  TimerReadRow 0x095 .rdTmrGra1L (fun t => BitVec.ofNat 8 ((t.ch[1]).compareA.toNat % 256)) 0xFF ∧
  TimerReadRow 0x09F .rdTmrGra2L (fun t => BitVec.ofNat 8 ((t.ch[2]).compareA.toNat % 256)) 0xFF ∧
  TimerReadRow 0x0A9 .rdTmrGra3L (fun t => BitVec.ofNat 8 ((t.ch[3]).compareA.toNat % 256)) 0xFF ∧
  TimerReadRow 0x0B9 .rdTmrGra4L (fun t => BitVec.ofNat 8 ((t.ch[4]).compareA.toNat % 256)) 0xFF ∧
  TimerReadRow 0x08C .rdTmrGrb0H (fun t => BitVec.ofNat 8 ((t.ch[0]).compareB.toNat / 256)) 0xFF ∧
  TimerReadRow 0x096 .rdTmrGrb1H (fun t => BitVec.ofNat 8 ((t.ch[1]).compareB.toNat / 256)) 0xFF ∧
  TimerReadRow 0x0A0 .rdTmrGrb2H (fun t => BitVec.ofNat 8 ((t.ch[2]).compareB.toNat / 256)) 0xFF ∧
  TimerReadRow 0x0AA .rdTmrGrb3H (fun t => BitVec.ofNat 8 ((t.ch[3]).compareB.toNat / 256)) 0xFF ∧
  TimerReadRow 0x0BA .rdTmrGrb4H (fun t => BitVec.ofNat 8 ((t.ch[4]).compareB.toNat / 256)) 0xFF ∧
  TimerReadRow 0x08D .rdTmrGrb0L (fun t => BitVec.ofNat 8 ((t.ch[0]).compareB.toNat % 256)) 0xFF ∧
  TimerReadRow 0x097 .rdTmrGrb1L (fun t => BitVec.ofNat 8 ((t.ch[1]).compareB.toNat % 256)) 0xFF ∧
  TimerReadRow 0x0A1 .rdTmrGrb2L (fun t => BitVec.ofNat 8 ((t.ch[2]).compareB.toNat % 256)) 0xFF ∧
  TimerReadRow 0x0AB .rdTmrGrb3L (fun t => BitVec.ofNat 8 ((t.ch[3]).compareB.toNat % 256)) 0xFF ∧
  TimerReadRow 0x0BB .rdTmrGrb4L (fun t => BitVec.ofNat 8 ((t.ch[4]).compareB.toNat % 256)) 0xFF

/-- Writes to TCR, TIOR, TIER and TSR of every channel (stated: R85, R87, R89, R91). -/
def Obligations.ChannelByteWrites : Prop :=
  TimerWriteRow 0x0C4 .wrTmrTcr0 (fun d => Timer.onChannel 0 fun ch => { ch with control := d }) ∧
  TimerWriteRow 0x0CE .wrTmrTcr1 (fun d => Timer.onChannel 1 fun ch => { ch with control := d }) ∧
  TimerWriteRow 0x0D8 .wrTmrTcr2 (fun d => Timer.onChannel 2 fun ch => { ch with control := d }) ∧
  TimerWriteRow 0x0E2 .wrTmrTcr3 (fun d => Timer.onChannel 3 fun ch => { ch with control := d }) ∧
  TimerWriteRow 0x0F2 .wrTmrTcr4 (fun d => Timer.onChannel 4 fun ch => { ch with control := d }) ∧
  TimerWriteRow 0x0C6 .wrTmrTier0 (fun d => Timer.onChannel 0 fun ch => { ch with ie := d }) ∧
  TimerWriteRow 0x0D0 .wrTmrTier1 (fun d => Timer.onChannel 1 fun ch => { ch with ie := d }) ∧
  TimerWriteRow 0x0DA .wrTmrTier2 (fun d => Timer.onChannel 2 fun ch => { ch with ie := d }) ∧
  TimerWriteRow 0x0E4 .wrTmrTier3 (fun d => Timer.onChannel 3 fun ch => { ch with ie := d }) ∧
  TimerWriteRow 0x0F4 .wrTmrTier4 (fun d => Timer.onChannel 4 fun ch => { ch with ie := d }) ∧
  TimerWriteRow 0x0C7 .wrTmrTsr0 (fun d => Timer.onChannel 0 fun ch => { ch with status := d }) ∧
  TimerWriteRow 0x0D1 .wrTmrTsr1 (fun d => Timer.onChannel 1 fun ch => { ch with status := d }) ∧
  TimerWriteRow 0x0DB .wrTmrTsr2 (fun d => Timer.onChannel 2 fun ch => { ch with status := d }) ∧
  TimerWriteRow 0x0E5 .wrTmrTsr3 (fun d => Timer.onChannel 3 fun ch => { ch with status := d }) ∧
  TimerWriteRow 0x0F5 .wrTmrTsr4 (fun d => Timer.onChannel 4 fun ch => { ch with status := d }) ∧
  TimerWriteRow 0x0C5 .wrTmrTior0 (fun _ t => t) ∧
  TimerWriteRow 0x0CF .wrTmrTior1 (fun _ t => t) ∧
  TimerWriteRow 0x0D9 .wrTmrTior2 (fun _ t => t) ∧
  TimerWriteRow 0x0E3 .wrTmrTior3 (fun _ t => t) ∧
  TimerWriteRow 0x0F3 .wrTmrTior4 (fun _ t => t)

/-- Byte writes to TCNT, GRA and GRB of every channel (stated: R93, R95, R97, R99, R101, R103). -/
def Obligations.ChannelHalfWrites : Prop :=
  TimerWriteRow 0x0C8 .wrTmrTcnt0H (fun d => Timer.onChannel 0 fun ch => { ch with counter := BitVec.ofNat 16 (d.toNat * 256 + ch.counter.toNat % 256) }) ∧
  TimerWriteRow 0x0D2 .wrTmrTcnt1H (fun d => Timer.onChannel 1 fun ch => { ch with counter := BitVec.ofNat 16 (d.toNat * 256 + ch.counter.toNat % 256) }) ∧
  TimerWriteRow 0x0DC .wrTmrTcnt2H (fun d => Timer.onChannel 2 fun ch => { ch with counter := BitVec.ofNat 16 (d.toNat * 256 + ch.counter.toNat % 256) }) ∧
  TimerWriteRow 0x0E6 .wrTmrTcnt3H (fun d => Timer.onChannel 3 fun ch => { ch with counter := BitVec.ofNat 16 (d.toNat * 256 + ch.counter.toNat % 256) }) ∧
  TimerWriteRow 0x0F6 .wrTmrTcnt4H (fun d => Timer.onChannel 4 fun ch => { ch with counter := BitVec.ofNat 16 (d.toNat * 256 + ch.counter.toNat % 256) }) ∧
  TimerWriteRow 0x0C9 .wrTmrTcnt0L (fun d => Timer.onChannel 0 fun ch => { ch with counter := BitVec.ofNat 16 (ch.counter.toNat / 256 * 256 + d.toNat) }) ∧
  TimerWriteRow 0x0D3 .wrTmrTcnt1L (fun d => Timer.onChannel 1 fun ch => { ch with counter := BitVec.ofNat 16 (ch.counter.toNat / 256 * 256 + d.toNat) }) ∧
  TimerWriteRow 0x0DD .wrTmrTcnt2L (fun d => Timer.onChannel 2 fun ch => { ch with counter := BitVec.ofNat 16 (ch.counter.toNat / 256 * 256 + d.toNat) }) ∧
  TimerWriteRow 0x0E7 .wrTmrTcnt3L (fun d => Timer.onChannel 3 fun ch => { ch with counter := BitVec.ofNat 16 (ch.counter.toNat / 256 * 256 + d.toNat) }) ∧
  TimerWriteRow 0x0F7 .wrTmrTcnt4L (fun d => Timer.onChannel 4 fun ch => { ch with counter := BitVec.ofNat 16 (ch.counter.toNat / 256 * 256 + d.toNat) }) ∧
  TimerWriteRow 0x0CA .wrTmrGra0H (fun d => Timer.onChannel 0 fun ch => { ch with compareA := BitVec.ofNat 16 (d.toNat * 256 + ch.compareA.toNat % 256) }) ∧
  TimerWriteRow 0x0D4 .wrTmrGra1H (fun d => Timer.onChannel 1 fun ch => { ch with compareA := BitVec.ofNat 16 (d.toNat * 256 + ch.compareA.toNat % 256) }) ∧
  TimerWriteRow 0x0DE .wrTmrGra2H (fun d => Timer.onChannel 2 fun ch => { ch with compareA := BitVec.ofNat 16 (d.toNat * 256 + ch.compareA.toNat % 256) }) ∧
  TimerWriteRow 0x0E8 .wrTmrGra3H (fun d => Timer.onChannel 3 fun ch => { ch with compareA := BitVec.ofNat 16 (d.toNat * 256 + ch.compareA.toNat % 256) }) ∧
  TimerWriteRow 0x0F8 .wrTmrGra4H (fun d => Timer.onChannel 4 fun ch => { ch with compareA := BitVec.ofNat 16 (d.toNat * 256 + ch.compareA.toNat % 256) }) ∧
  TimerWriteRow 0x0CB .wrTmrGra0L (fun d => Timer.onChannel 0 fun ch => { ch with compareA := BitVec.ofNat 16 (ch.compareA.toNat / 256 * 256 + d.toNat) }) ∧
  TimerWriteRow 0x0D5 .wrTmrGra1L (fun d => Timer.onChannel 1 fun ch => { ch with compareA := BitVec.ofNat 16 (ch.compareA.toNat / 256 * 256 + d.toNat) }) ∧
  TimerWriteRow 0x0DF .wrTmrGra2L (fun d => Timer.onChannel 2 fun ch => { ch with compareA := BitVec.ofNat 16 (ch.compareA.toNat / 256 * 256 + d.toNat) }) ∧
  TimerWriteRow 0x0E9 .wrTmrGra3L (fun d => Timer.onChannel 3 fun ch => { ch with compareA := BitVec.ofNat 16 (ch.compareA.toNat / 256 * 256 + d.toNat) }) ∧
  TimerWriteRow 0x0F9 .wrTmrGra4L (fun d => Timer.onChannel 4 fun ch => { ch with compareA := BitVec.ofNat 16 (ch.compareA.toNat / 256 * 256 + d.toNat) }) ∧
  TimerWriteRow 0x0CC .wrTmrGrb0H (fun d => Timer.onChannel 0 fun ch => { ch with compareB := BitVec.ofNat 16 (d.toNat * 256 + ch.compareB.toNat % 256) }) ∧
  TimerWriteRow 0x0D6 .wrTmrGrb1H (fun d => Timer.onChannel 1 fun ch => { ch with compareB := BitVec.ofNat 16 (d.toNat * 256 + ch.compareB.toNat % 256) }) ∧
  TimerWriteRow 0x0E0 .wrTmrGrb2H (fun d => Timer.onChannel 2 fun ch => { ch with compareB := BitVec.ofNat 16 (d.toNat * 256 + ch.compareB.toNat % 256) }) ∧
  TimerWriteRow 0x0EA .wrTmrGrb3H (fun d => Timer.onChannel 3 fun ch => { ch with compareB := BitVec.ofNat 16 (d.toNat * 256 + ch.compareB.toNat % 256) }) ∧
  TimerWriteRow 0x0FA .wrTmrGrb4H (fun d => Timer.onChannel 4 fun ch => { ch with compareB := BitVec.ofNat 16 (d.toNat * 256 + ch.compareB.toNat % 256) }) ∧
  TimerWriteRow 0x0CD .wrTmrGrb0L (fun d => Timer.onChannel 0 fun ch => { ch with compareB := BitVec.ofNat 16 (ch.compareB.toNat / 256 * 256 + d.toNat) }) ∧
  TimerWriteRow 0x0D7 .wrTmrGrb1L (fun d => Timer.onChannel 1 fun ch => { ch with compareB := BitVec.ofNat 16 (ch.compareB.toNat / 256 * 256 + d.toNat) }) ∧
  TimerWriteRow 0x0E1 .wrTmrGrb2L (fun d => Timer.onChannel 2 fun ch => { ch with compareB := BitVec.ofNat 16 (ch.compareB.toNat / 256 * 256 + d.toNat) }) ∧
  TimerWriteRow 0x0EB .wrTmrGrb3L (fun d => Timer.onChannel 3 fun ch => { ch with compareB := BitVec.ofNat 16 (ch.compareB.toNat / 256 * 256 + d.toNat) }) ∧
  TimerWriteRow 0x0FB .wrTmrGrb4L (fun d => Timer.onChannel 4 fun ch => { ch with compareB := BitVec.ofNat 16 (ch.compareB.toNat / 256 * 256 + d.toNat) })

/-- A 16-bit register written by halves has the same value in either order (stated: R43). -/
def Obligations.HalfWritesInEitherOrder : Prop :=
  ∀ (s : State) (r : Reg16) (i : Fin 5) (hi lo : Byte),
    ∃ t1 t2 u1, exec (r.high.writeRow i hi) s = .next t1 ∧ exec (r.low.writeRow i lo) t1 = .next t2 ∧
      exec (r.low.writeRow i lo) s = .next u1 ∧ exec (r.high.writeRow i hi) u1 = .next t2 ∧
      (t1.timer.ch[i]).readReg r.high = hi ∧ (t1.timer.ch[i]).readReg r.low = (s.timer.ch[i]).readReg r.low ∧
      (u1.timer.ch[i]).readReg r.low = lo ∧ (u1.timer.ch[i]).readReg r.high = (s.timer.ch[i]).readReg r.high ∧
      (match r with
        | .tcnt => (t2.timer.ch[i]).counter
        | .gra => (t2.timer.ch[i]).compareA
        | .grb => (t2.timer.ch[i]).compareB) = BitVec.ofNat 16 (hi.toNat * 256 + lo.toNat)

/-- Reads of the scratch offsets (stated: R104). -/
def Obligations.ScratchReads : Prop :=
  (∀ j : Fin 4, (∀ n d c bs, decode n { word := BitVec.ofNat 10 (0x0AC + j.val), d := d, c := c, bs := bs } = .ok (.rdTmrScratch2C j)) ∧
    ∀ s, exec (.rdTmrScratch2C j) s = .next { s with returned := .byte (s.timer.scratch[0x2C + j.val]) }) ∧
  (∀ j : Fin 2, (∀ n d c bs, decode n { word := BitVec.ofNat 10 (0x0B0 + j.val), d := d, c := c, bs := bs } = .ok (.rdTmrScratch30 j)) ∧
    ∀ s, exec (.rdTmrScratch30 j) s = .next { s with returned := .byte (s.timer.scratch[0x30 + j.val]) }) ∧
  (∀ j : Fin 4, (∀ n d c bs, decode n { word := BitVec.ofNat 10 (0x0BC + j.val), d := d, c := c, bs := bs } = .ok (.rdTmrScratch3C j)) ∧
    ∀ s, exec (.rdTmrScratch3C j) s = .next { s with returned := .byte (s.timer.scratch[0x3C + j.val]) })

/-- Writes to the scratch offsets (stated: R105). -/
def Obligations.ScratchWrites : Prop :=
  (∀ j : Fin 4, (∀ n d c bs, decode n { word := BitVec.ofNat 10 (0x0EC + j.val), d := d, c := c, bs := bs } = .ok (.wrTmrScratch2C j d)) ∧
    ∀ d s, exec (.wrTmrScratch2C j d) s = .next { s with
      timer := { s.timer with scratch := s.timer.scratch.set (0x2C + j.val) d }, returned := .none }) ∧
  (∀ j : Fin 2, (∀ n d c bs, decode n { word := BitVec.ofNat 10 (0x0F0 + j.val), d := d, c := c, bs := bs } = .ok (.wrTmrScratch30 j d)) ∧
    ∀ d s, exec (.wrTmrScratch30 j d) s = .next { s with
      timer := { s.timer with scratch := s.timer.scratch.set (0x30 + j.val) d }, returned := .none }) ∧
  (∀ j : Fin 4, (∀ n d c bs, decode n { word := BitVec.ofNat 10 (0x0FC + j.val), d := d, c := c, bs := bs } = .ok (.wrTmrScratch3C j d)) ∧
    ∀ d s, exec (.wrTmrScratch3C j d) s = .next { s with
      timer := { s.timer with scratch := s.timer.scratch.set (0x3C + j.val) d }, returned := .none })

/-- A read changes no device, emits nothing, and read again returns the same (stated: R45). -/
def Obligations.ReadsChangeNothing : Prop :=
  ∀ (i : Instr) (s t : State), i.word.toNat / 256 < 2 → i.word.toNat / 64 % 2 = 0 → exec i s = .next t →
    (∃ b, t = { s with returned := .byte b }) ∧ exec i t = .next t

/-- A timer tick below the snapshot is the model's fault, and no other timer tick is (stated: R62). -/
def Obligations.TimerTickBackwardsFaults : Prop :=
  ∀ (c : Nat) (s : State),
    (c < s.timer.snap → exec (.tickTmr c) s = .fault .nonMonotonicCycle) ∧
    (s.timer.snap ≤ c → ∃ t, exec (.tickTmr c) s = .next t)

/-- A timer tick runs the sub-ticks due on each running channel, in order, and stores the snapshot (stated: R60, R61, R69, R70, R71). -/
def Obligations.TimerTickEffect : Prop :=
  ∀ (c : Nat) (s : State),
    (c < s.timer.snap → exec (.tickTmr c) s = .fault .nonMonotonicCycle) ∧
    (s.timer.snap ≤ c → ∃ ch : Vector Channel 5,
      (∀ i : Fin 5, ch[i] = Channel.subtick^[s.timer.subticksDue c i] s.timer.ch[i]) ∧
      exec (.tickTmr c) s = .next { s with
        timer := { s.timer with ch := ch, snap := c }
        trace := s.trace ++ ([0, 1, 2, 3, 4] : List (Fin 5)).flatMap fun i =>
          (List.range (s.timer.subticksDue c i)).flatMap fun j => (Channel.subtick^[j] s.timer.ch[i]).eventsOf i
        returned := .none })

/-- One sub-tick: the next counter, the sticky flags and the events in order (stated: R64, R65, R66, R67, R68). -/
def Obligations.SubtickFollowsTheFiveSteps : Prop :=
  ∀ (i : Fin 5) (ch : Channel),
    ch.subtick.counter.toNat =
      (if (ch.counter = ch.compareA ∧ ch.control.toNat / 32 % 4 = 1) ∨ (ch.counter = ch.compareB ∧ ch.control.toNat / 32 % 4 = 2)
        then 0 else (ch.counter.toNat + 1) % 65536) ∧
    ch.subtick.status.getLsbD 0 = (ch.status.getLsbD 0 || decide (ch.counter = ch.compareA)) ∧
    ch.subtick.status.getLsbD 1 = (ch.status.getLsbD 1 || decide (ch.counter = ch.compareB)) ∧
    ch.subtick.status.getLsbD 2 = (ch.status.getLsbD 2 || (decide (ch.counter = 0) && ch.ie.getLsbD 2)) ∧
    (∀ b, 3 ≤ b → ch.subtick.status.getLsbD b = ch.status.getLsbD b) ∧
    ch.subtick.control = ch.control ∧ ch.subtick.ie = ch.ie ∧
    ch.subtick.compareA = ch.compareA ∧ ch.subtick.compareB = ch.compareB ∧
    ch.eventsOf i =
      (if ch.counter = ch.compareA ∧ ch.ie.getLsbD 0 = true then [.irq (24 + 4 * i.val)] else []) ++
      (if ch.counter = ch.compareB ∧ ch.ie.getLsbD 1 = true then [.irq (25 + 4 * i.val)] else []) ++
      (if ch.counter = 0 ∧ ch.ie.getLsbD 2 = true then [.irq (26 + 4 * i.val)] else [])

/-- A timer tick at the snapshot changes nothing (derived: 40_timer_tick.md section 1). -/
def Obligations.TimerTickAtTheSnapshotDoesNothing : Prop :=
  ∀ (s : State), exec (.tickTmr s.timer.snap) s = .next { s with returned := .none }

/-- Without a clear pattern a running counter advances by the sub-ticks due, modulo 65536 (derived: 40_timer_tick.md sections 2 and 3). -/
def Obligations.CounterRunsFreeWithoutClear : Prop :=
  ∀ (c : Nat) (s : State) (i : Fin 5), s.timer.snap ≤ c →
    ((s.timer.ch[i]).control.toNat / 32 % 4 = 0 ∨ (s.timer.ch[i]).control.toNat / 32 % 4 = 3) →
    ∃ t, exec (.tickTmr c) s = .next t ∧
      (t.timer.ch[i]).counter.toNat = ((s.timer.ch[i]).counter.toNat + s.timer.subticksDue c i) % 65536

/-- Under clear on A the counter has period compareA + 1, with one compare-match interrupt a period (derived: 40_timer_tick.md section 4). -/
def Obligations.ClearOnAHasPeriodCompareAPlusOne : Prop :=
  ∀ (c m : Nat) (s : State) (i : Fin 5), s.timer.snap ≤ c →
    (s.timer.ch[i]).control.toNat / 32 % 4 = 1 → (s.timer.ch[i]).counter = 0 → (s.timer.ch[i]).ie.getLsbD 0 = true →
    s.timer.subticksDue c i = m * ((s.timer.ch[i]).compareA.toNat + 1) →
    ∃ t es, exec (.tickTmr c) s = .next t ∧ (t.timer.ch[i]).counter = 0 ∧ t.trace = s.trace ++ es ∧
      es.count (.irq (24 + 4 * i.val)) = m

/-- With one channel enabled, compareA + 1 elapsed sub-ticks raise its A interrupt exactly once and nothing else (derived: 95_test_vectors.md section 1). -/
def Obligations.CompareMatchAFiresOnce : Prop :=
  ∀ (c : Nat) (s : State) (i : Fin 5), s.timer.snap ≤ c →
    (∀ j : Fin 5, j ≠ i → s.timer.start.getLsbD j.val = false) →
    (s.timer.ch[i]).counter = 0 → (s.timer.ch[i]).ie.toNat % 8 = 1 →
    ((s.timer.ch[i]).control.toNat / 32 % 4 = 2 → (s.timer.ch[i]).compareA.toNat ≤ (s.timer.ch[i]).compareB.toNat) →
    s.timer.subticksDue c i = (s.timer.ch[i]).compareA.toNat + 1 →
    ∃ t, exec (.tickTmr c) s = .next t ∧ t.trace = s.trace ++ [.irq (24 + 4 * i.val)]

/-- Two ticks with nothing between them leave what the later one alone leaves (derived: 40_timer_tick.md section 1). -/
def Obligations.TicksCompose : Prop :=
  ∀ (c1 c2 : Nat) (s : State), s.timer.snap ≤ c1 → c1 ≤ c2 →
    ∃ t1 t2 u, exec (.tickTmr c1) s = .next t1 ∧ exec (.tickTmr c2) t1 = .next t2 ∧ exec (.tickTmr c2) s = .next u ∧
      t2.timer = u.timer ∧ t2.sci = u.sci ∧ t2.params = u.params ∧
      ∀ i : Fin 5, t2.trace.filter (Event.ofChannel i) = u.trace.filter (Event.ofChannel i)

/-- A timer status bit is cleared by nothing but a write to its own TSR (derived: 10_state.md section 4, 60_exceptions.md section 2). -/
def Obligations.TimerFlagsAreSticky : Prop :=
  ∀ (ins : Instr) (s t : State) (i : Fin 5) (b : Nat), exec ins s = .next t →
    (s.timer.ch[i]).status.getLsbD b = true → (t.timer.ch[i]).status.getLsbD b = false →
    ∃ d : Byte, ins = pickChan i (.wrTmrTsr0 d) (.wrTmrTsr1 d) (.wrTmrTsr2 d) (.wrTmrTsr3 d) (.wrTmrTsr4 d) ∧ d.getLsbD b = false

/-- Only a timer tick writes the snapshot, and no tick writes a configuration register (derived: 60_exceptions.md section 6, 10_state.md sections 3, 4 and 5). -/
def Obligations.OnlyTicksMoveTheTimer : Prop :=
  (∀ (ins : Instr) (s t : State), exec ins s = .next t → t.timer.snap ≠ s.timer.snap → ∃ c, ins = .tickTmr c ∧ t.timer.snap = c) ∧
  (∀ (ins : Instr) (s t : State), ((∃ c, ins = .tickTmr c) ∨ (∃ k c, ins = .tickSci k c)) → exec ins s = .next t →
    t.timer.start = s.timer.start ∧ t.timer.sync = s.timer.sync ∧ t.timer.mode = s.timer.mode ∧ t.timer.fc = s.timer.fc ∧
    t.timer.scratch = s.timer.scratch ∧
    ∀ i : Fin 5, (t.timer.ch[i]).control = (s.timer.ch[i]).control ∧ (t.timer.ch[i]).ie = (s.timer.ch[i]).ie ∧
      (t.timer.ch[i]).compareA = (s.timer.ch[i]).compareA ∧ (t.timer.ch[i]).compareB = (s.timer.ch[i]).compareB)

/-- Reads of SCR, TDR, SSR, RDR and the raw offsets of a serial instance (stated: R118, R119, R120, R121, R122). -/
def Obligations.SerialReads : Prop :=
  SciReadRow 0x182 .rdSciScr (fun x => x.control) ∧
  SciReadRow 0x183 .rdSciTdr (fun x => x.txData) ∧
  SciReadRow 0x184 .rdSciSsr (fun x => x.status) ∧
  SciReadRow 0x185 .rdSciRdr (fun x => x.rxData) ∧
  SciReadRow 0x180 (fun k => .rdSciRaw01 k 0) (fun x => x.raw[0]) ∧
  SciReadRow 0x181 (fun k => .rdSciRaw01 k 1) (fun x => x.raw[1]) ∧
  SciReadRow 0x186 (fun k => .rdSciRaw67 k 0) (fun x => x.raw[6]) ∧
  SciReadRow 0x187 (fun k => .rdSciRaw67 k 1) (fun x => x.raw[7]) ∧
  (∀ p o raw, (Sci.resetWith p o raw).txData = 0x00 ∧ (Sci.resetWith p o raw).status = 0x80)

/-- A write to SCR arms or disarms the countdown on a change of bit 5, and stores the byte (stated: R113). -/
def Obligations.SerialControlWrite : Prop :=
  SciWriteRow 0x1C2 .wrSciScr fun _ _ d x =>
    ({ x with
        control := d
        txTimer :=
          if d.toNat / 32 % 2 = 1 ∧ x.control.toNat / 32 % 2 = 0 then 1
          else if d.toNat / 32 % 2 = 0 ∧ x.control.toNat / 32 % 2 = 1 then 0
          else x.txTimer }, [])

/-- A write to TDR transmits the byte at once, rearms the countdown and clears transmit-empty, unless it is the sentinel (stated: R114). -/
def Obligations.SerialTransmitWrite : Prop :=
  SciWriteRow 0x1C3 .wrSciTdr fun p k d x =>
    if d = p.sentinel then ({ x with txData := d }, [])
    else ({ x with txData := d, txTimer := p.clockTime, status := BitVec.ofNat 8 (x.status.toNat % 128) }, [.tx k d])

/-- Writes to SSR, RDR and the raw offsets (stated: R115, R116, R117). -/
def Obligations.SerialStatusAndRawWrites : Prop :=
  SciWriteRow 0x1C4 .wrSciSsr (fun _ _ d x => ({ x with status := d }, [])) ∧
  SciWriteRow 0x1C5 .wrSciRdr (fun _ _ _ x => (x, [])) ∧
  SciWriteRow 0x1C0 (fun k => .wrSciRaw01 k 0) (fun _ _ d x => ({ x with raw := x.raw.set 0 d }, [])) ∧
  SciWriteRow 0x1C1 (fun k => .wrSciRaw01 k 1) (fun _ _ d x => ({ x with raw := x.raw.set 1 d }, [])) ∧
  SciWriteRow 0x1C6 (fun k => .wrSciRaw67 k 0) (fun _ _ d x => ({ x with raw := x.raw.set 6 d }, [])) ∧
  SciWriteRow 0x1C7 (fun k => .wrSciRaw67 k 1) (fun _ _ d x => ({ x with raw := x.raw.set 7 d }, []))

/-- A serial tick runs the countdown, then delivers at most one byte, then records the cycle (stated: R106, R107, R108, R109, R110, R111, R112). -/
def Obligations.SerialTickEffect : Prop :=
  ∀ (k : Fin 8) (c : Nat) (s : State) (x : Sci), s.sci[k.val]? = some x →
    (c < x.last → exec (.tickSci k c) s = .fault .nonMonotonicCycle) ∧
    (x.last ≤ c →
      let armed := 0 < x.txTimer
      let left : Int := x.txTimer - ((c : Int) - (x.last : Int))
      let expired := armed ∧ left ≤ 0
      let delivered := x.rxq ≠ [] ∧ x.status.getLsbD 6 = false
      exec (.tickSci k c) s = .next { s with
        sci := s.sci.set k.val { x with
          txTimer := if expired then s.params.clockTime else if armed then left else x.txTimer
          rxData := if delivered then x.rxq.headD x.rxData else x.rxData
          rxq := if delivered then x.rxq.tail else x.rxq
          status := if delivered then x.status ||| 0x40 else x.status
          last := c }
        trace := s.trace ++ (if expired ∧ x.control.getLsbD 7 = true then [.irq (54 + x.o)] else []) ++
          (if delivered then [.irq (53 + x.o)] else [])
        returned := .none })

/-- send appends its bytes to the back of the inbound queue and does nothing else (stated: R123). -/
def Obligations.SendAppends : Prop :=
  ∀ k : Fin 8,
    (∀ n d c bs, k.val < n → decode n { word := BitVec.ofNat 10 (0x202 + 8 * k.val), d := d, c := c, bs := bs } = .ok (.sendSci k bs)) ∧
    (∀ bs s x, s.sci[k.val]? = some x →
      exec (.sendSci k bs) s = .next { s with sci := s.sci.set k.val { x with rxq := x.rxq ++ bs }, returned := .none })

/-- hasPendingRX answers whether the inbound queue is non-empty and changes nothing (stated: R124). -/
def Obligations.PendAnswersWhetherTheQueueIsNonEmpty : Prop :=
  ∀ k : Fin 8,
    (∀ n d c bs, k.val < n → decode n { word := BitVec.ofNat 10 (0x203 + 8 * k.val), d := d, c := c, bs := bs } = .ok (.pendSci k)) ∧
    (∀ s x, s.sci[k.val]? = some x →
      exec (.pendSci k) s = .next { s with returned := .bool (decide (x.rxq ≠ [])) })

/-- A serial operation for an instance the platform lacks is refused as its reserved word is (derived: 30_encoding.md section 1). That exec itself refuses such an operation, with no word left to refuse, is the model's own (DEDUCED), log entry 8. -/
def Obligations.MissingInstanceIsRefused : Prop :=
  ∀ (ins : Instr) (s : State) (k : Fin 8), ins.sci = some k →
    (s.sci.length ≤ k.val → exec ins s = .refused (.reserved (.noSuchSci k))) ∧
    (k.val < s.sci.length → ∀ r, exec ins s ≠ .refused r)

/-- RDR changes only by a delivery while receive-full is clear, and the inbound queue is first in, first out (stated: R34). -/
def Obligations.InboundBytesLeaveInOrder : Prop :=
  ∀ (ins : Instr) (s t : State), exec ins s = .next t →
    (∀ (k : Nat) (x y : Sci), s.sci[k]? = some x → t.sci[k]? = some y →
      (y.rxq = x.rxq ∧ y.rxData = x.rxData) ∨
      (∃ (j : Fin 8) (bs : List Byte), j.val = k ∧ ins = .sendSci j bs ∧ y.rxq = x.rxq ++ bs ∧ y.rxData = x.rxData) ∨
      (∃ (j : Fin 8) (c : Nat), j.val = k ∧ ins = .tickSci j c ∧ x.status.getLsbD 6 = false ∧ x.rxq = y.rxData :: y.rxq)) ∧
    ∀ i : Fin 5, (t.timer.ch[i]).counter.toNat ≤ 65535

/-- Transmit-empty becomes 1 by nothing but a write to SSR, and 0 by nothing but a TDR or SSR write (derived: 10_state.md section 6, 42_serial_tick.md). -/
def Obligations.OnlyStatusWriteSetsTransmitEmpty : Prop :=
  ∀ (ins : Instr) (s t : State) (k : Nat) (x y : Sci), exec ins s = .next t → s.sci[k]? = some x → t.sci[k]? = some y →
    (x.status.getLsbD 7 = false → y.status.getLsbD 7 = true →
      ∃ (j : Fin 8) (d : Byte), j.val = k ∧ ins = .wrSciSsr j d ∧ d.getLsbD 7 = true) ∧
    (x.status.getLsbD 7 = true → y.status.getLsbD 7 = false →
      ∃ (j : Fin 8) (d : Byte), j.val = k ∧ ((ins = .wrSciSsr j d ∧ d.getLsbD 7 = false) ∨ (ins = .wrSciTdr j d ∧ d ≠ s.params.sentinel)))

/-- An operation writes only the device it is for (derived: 60_exceptions.md section 6, 00_scope.md section 3). -/
def Obligations.DevicesAreIsolated : Prop :=
  ∀ (ins : Instr) (s t : State), exec ins s = .next t →
    t.params = s.params ∧ t.ops = s.ops ∧ t.sci.length = s.sci.length ∧
    (ins.sci = none → t.sci = s.sci) ∧
    (∀ k : Fin 8, ins.sci = some k → t.timer = s.timer ∧ ∀ j : Nat, j ≠ k.val → t.sci[j]? = s.sci[j]?)

/-- What a serial operation does, returns and emits depends only on its own instance and the parameters (derived: 60_exceptions.md section 6, 42_serial_tick.md). That exec refuses an operation for a missing instance is the model's own (DEDUCED), log entry 8. -/
def Obligations.SerialOperationSeesOnlyItsInstance : Prop :=
  ∀ (ins : Instr) (k : Fin 8) (s1 s2 : State), ins.sci = some k → s1.params = s2.params → s1.sci[k.val]? = s2.sci[k.val]? →
    (∀ t1, exec ins s1 = .next t1 → ∃ t2 es, exec ins s2 = .next t2 ∧ t2.sci[k.val]? = t1.sci[k.val]? ∧ t2.returned = t1.returned ∧
      t1.trace = s1.trace ++ es ∧ t2.trace = s2.trace ++ es) ∧
    (∀ f, exec ins s1 = .fault f → exec ins s2 = .fault f) ∧
    (∀ r, exec ins s1 = .refused r → exec ins s2 = .refused r)

/-- What a timer operation does, returns and emits depends only on the timer unit (derived: 60_exceptions.md section 6, 20_memory.md section 3). -/
def Obligations.TimerOperationSeesOnlyTheTimer : Prop :=
  ∀ (ins : Instr) (s1 s2 : State), ins.sci = none → s1.timer = s2.timer →
    (∀ t1, exec ins s1 = .next t1 → ∃ t2 es, exec ins s2 = .next t2 ∧ t2.timer = t1.timer ∧ t2.returned = t1.returned ∧
      t1.trace = s1.trace ++ es ∧ t2.trace = s2.trace ++ es) ∧
    (∀ f, exec ins s1 = .fault f → exec ins s2 = .fault f) ∧
    (∀ r, exec ins s1 ≠ .refused r)

/-- The trace only grows, and only by the vectors and bytes the spec names (derived: 60_exceptions.md section 2, 00_scope.md section 3). -/
def Obligations.EventsAreThoseTheSpecNames : Prop :=
  ∀ (s t : State), step s = .next t → ∃ es, t.trace = s.trace ++ es ∧ ∀ e ∈ es, s.allows e

/-- An interrupt is raised by a tick of its device and by nothing else, a transmission by a TDR write and nothing else (derived: 60_exceptions.md sections 2 and 6, 43_serial_bus.md section 1). -/
def Obligations.InterruptsComeFromTicksOfTheirDevice : Prop :=
  ∀ (ins : Instr) (s t : State) (es : List Event), exec ins s = .next t → t.trace = s.trace ++ es →
    (∀ v, .irq v ∈ es →
      (∃ (c : Nat) (i : Fin 5), ins = .tickTmr c ∧ Event.ofChannel i (.irq v) = true) ∨
      (∃ (c : Nat) (k : Fin 8) (x : Sci), ins = .tickSci k c ∧ s.sci[k.val]? = some x ∧ (v = 53 + x.o ∨ v = 54 + x.o))) ∧
    (∀ k b, .tx k b ∈ es → ins = .wrSciTdr k b ∧ b ≠ s.params.sentinel)

/-- Every step keeps the state sound (derived: 10_state.md sections 5 and 7, 00_scope.md section 3, 42_serial_tick.md). -/
def Obligations.StepKeepsSoundness : Prop :=
  ∀ (s t : State), s.Sound → step s = .next t → t.Sound ∧ t.params = s.params

/-- The machine right after construction is sound, for every legal choice of the parameters (derived: 70_reset_and_hazards.md section 1). Config.params and State.reset are the model's choice of the open parameters, log entry 4. -/
def Obligations.ResetIsSound : Prop :=
  (∀ (p : Params) (scratch : Vector Byte 64) (raw : Nat → Vector Byte 8), p.legal → (State.resetWith p scratch raw).Sound) ∧
  Config.params.legal ∧ State.reset.Sound

/-- What construction leaves, for every choice of the open parameters and contents (derived: 70_reset_and_hazards.md section 1, 10_state.md). The 0x00 values are the spec's own decision D18, log entry 9. -/
def Obligations.ConstructedState : Prop :=
  ∀ (p : Params) (scratch : Vector Byte 64) (raw : Nat → Vector Byte 8),
    let s := State.resetWith p scratch raw
    s.timer.start = 0x00 ∧ s.timer.sync = 0x00 ∧ s.timer.mode = 0x00 ∧ s.timer.fc = 0x00 ∧
    s.timer.scratch = scratch ∧ s.timer.snap = p.cycle0 ∧
    (∀ i : Fin 5, s.timer.ch[i] = { control := 0x00, ie := 0x00, status := 0x00, counter := 0x0000, compareA := 0xFFFF, compareB := 0xFFFF } ∧
      s.timer.runs i = false) ∧
    s.sci.length = p.sci.length ∧
    (∀ (k : Nat) (q : SciParams), p.sci[k]? = some q → s.sci[k]? = some
      { raw := raw k, control := 0x00, txData := 0x00, status := 0x80, rxData := 0x00, txTimer := 0, last := p.cycle0, rxq := [], o := q.irqOffset }) ∧
    s.trace = [] ∧ s.params = p

/-- A step stops exactly on a tick below the stored cycle value or on a reserved word (stated: R126). -/
def Obligations.FaultAndRefusalAreTheOnlyStops : Prop :=
  ∀ (s : State),
    ((∃ f, step s = .fault f) ↔ ∃ t rest, s.ops = t :: rest ∧
      ((∃ c, decode s.sci.length t = .ok (.tickTmr c) ∧ c < s.timer.snap) ∨
       (∃ k c x, decode s.sci.length t = .ok (.tickSci k c) ∧ s.sci[k.val]? = some x ∧ c < x.last))) ∧
    ((∃ r, step s = .refused r) ↔ ∃ t rest, s.ops = t :: rest ∧ reservedWord s.sci.length t.word.toNat = true)

/-- No operation lowers the snapshot or an instance's last-sampled cycle (derived: 10_state.md sections 5 and 7, 00_scope.md section 3). -/
def Obligations.StoredCyclesNeverGoBack : Prop :=
  ∀ (ins : Instr) (s t : State), exec ins s = .next t →
    s.timer.snap ≤ t.timer.snap ∧
    ∀ (k : Nat) (x y : Sci), s.sci[k]? = some x → t.sci[k]? = some y → x.last ≤ y.last

/-- While the driver keeps its duty no step faults or is refused, and every operation is performed (derived: 70_reset_and_hazards.md section 2, 40_timer_tick.md section 1). That an empty list leaves the machine as it is is the model's choice, log entry 2. -/
def Obligations.DutifulDriverNeverStops : Prop :=
  ∀ (s : State), s.dutiful = true →
    (∀ n : Nat, ∃ t, Host.Core.run Sys2Proof.core n s = .next t) ∧
    ∃ t : State, Host.Core.run Sys2Proof.core s.ops.length s = .next t ∧ t.ops = []

/-- The two operations of WR16 leave the 16-bit register with the value written (derived: 30_encoding.md section 4, 20_memory.md section 2). -/
def Obligations.WriteSixteenExpansionWritesTheRegister : Prop :=
  ∀ (s : State) (r : Reg16) (i : Fin 5) (v : Half) (rest : List Transaction), s.params.tmrBase.toNat ≤ 0xFFFFFFC0 →
    s.ops = assemble s.params [.wr16 r i v] ++ rest →
    ∃ t : State, Host.Core.run Sys2Proof.core 2 s = .next t ∧ t.ops = rest ∧ t.params = s.params ∧ t.trace = s.trace ∧ t.sci = s.sci ∧
      t.timer = s.timer.onChannel i fun ch =>
        match r with
        | .tcnt => { ch with counter := v }
        | .gra => { ch with compareA := v }
        | .grb => { ch with compareB := v }
end

