-- ==== Sys2Proof/Laws/Decode.lean ====
section
/-! SUPPORT. The decoder by the class of the word, and the offset maps against their inverses. -/

namespace Sys2Proof

theorem decode_class0 {w : TWord} (h : (w.extractLsb' 8 2).toNat = 0) (n : Nat) (d : Byte) (c : Nat) (bs : List Byte) :
    decode n { word := w, d := d, c := c, bs := bs } = .ok (decodeTimer w d) := by
  unfold decode; simp only [h]

theorem decode_class1 {w : TWord} (h : (w.extractLsb' 8 2).toNat = 1) (n : Nat) (d : Byte) (c : Nat) (bs : List Byte) :
    decode n { word := w, d := d, c := c, bs := bs } = decodeSerial n w d := by
  unfold decode; simp only [h]

theorem decode_class2 {w : TWord} (h : (w.extractLsb' 8 2).toNat = 2) (n : Nat) (d : Byte) (c : Nat) (bs : List Byte) :
    decode n { word := w, d := d, c := c, bs := bs } = decodeHost n { word := w, d := d, c := c, bs := bs } := by
  unfold decode; simp only [h]

theorem decode_class3 {w : TWord} (h : (w.extractLsb' 8 2).toNat = 3) (n : Nat) (d : Byte) (c : Nat) (bs : List Byte) :
    decode n { word := w, d := d, c := c, bs := bs } = .error .class3 := by
  unfold decode; simp only [h]

/-- A serial read word of an instance there is. -/
theorem decodeSerial_read {w : TWord} (h7 : w.getLsbD 7 = true) (h6 : w.getLsbD 6 = false) (n : Nat) (d : Byte)
    (hk : (kField w).val < n) :
    decodeSerial n w d = .ok ((sciReg (w.extractLsb' 0 3)).readRow (kField w)) := by
  unfold decodeSerial
  rw [h7, h6, if_neg (by decide), if_neg (by omega)]
  rfl

/-- A serial write word of an instance there is. -/
theorem decodeSerial_write {w : TWord} (h7 : w.getLsbD 7 = true) (h6 : w.getLsbD 6 = true) (n : Nat) (d : Byte)
    (hk : (kField w).val < n) :
    decodeSerial n w d = .ok ((sciReg (w.extractLsb' 0 3)).writeRow (kField w) d) := by
  unfold decodeSerial
  rw [h7, h6, if_neg (by decide), if_neg (by omega)]
  rfl

/-- The offset map of the timer window and the offset of a register name are inverse to each other. -/
theorem tmrReg_offset (off : BitVec 6) : (tmrReg off).offset = off := by revert off; decide

theorem offset_tmrReg (r : TmrReg) : tmrReg r.offset = r := by
  cases r with
  | chan i r => revert i r; intro i r; cases r <;> revert i <;> decide
  | scratch2C j => revert j; decide
  | scratch30 j => revert j; decide
  | scratch3C j => revert j; decide
  | _ => rfl

/-- The offset map of a serial window and the offset of a register name are inverse to each other. -/
theorem sciReg_offset (off : BitVec 3) : (sciReg off).offset = off := by revert off; decide

theorem offset_sciReg (r : SciReg) : sciReg r.offset = r := by
  cases r with
  | raw01 j => revert j; decide
  | raw67 j => revert j; decide
  | _ => rfl

end Sys2Proof
end

