-- ==== Sys2Proof/Laws/Exec.lean ====
section
/-! SUPPORT. The ten shapes of an operation: every meaning is one shared operation on operands of its own, so a claim over all 132
operations is a claim over ten shapes. -/

namespace Sys2Proof.Machine

/-- A shared operation and its operands. -/
inductive Shape where
  | readOutside
  | writeOutside (d : Byte)
  | readTimer (r : TmrReg)
  | writeTimer (r : TmrReg) (d : Byte)
  | readSci (k : Fin 8) (r : SciReg)
  | writeSci (k : Fin 8) (r : SciReg) (d : Byte)
  | tickTimer (c : Nat)
  | tickSci (k : Fin 8) (c : Nat)
  | sendSci (k : Fin 8) (bs : List Byte)
  | pendSci (k : Fin 8)
  deriving DecidableEq, Repr

/-- What a shape does. -/
def Shape.run (s : State) : Shape → Result
  | .readOutside => Machine.readOutside s
  | .writeOutside d => Machine.writeOutside d s
  | .readTimer r => Machine.readTimer r s
  | .writeTimer r d => Machine.writeTimer r d s
  | .readSci k r => Machine.readSci k r s
  | .writeSci k r d => Machine.writeSci k r d s
  | .tickTimer c => Machine.tickTimer c s
  | .tickSci k c => Machine.tickSci k c s
  | .sendSci k bs => Machine.sendSci k bs s
  | .pendSci k => Machine.pendSci k s

/-- The serial instance a shape is for. -/
def Shape.sci : Shape → Option (Fin 8)
  | .readSci k _ | .writeSci k _ _ | .tickSci k _ | .sendSci k _ | .pendSci k => some k
  | .readOutside | .writeOutside _ | .readTimer _ | .writeTimer _ _ | .tickTimer _ => none

/-- The operation of a shape. -/
def Shape.instr : Shape → Instr
  | .readOutside => .rdTmrOut
  | .writeOutside d => .wrTmrOut d
  | .readTimer r => r.readRow
  | .writeTimer r d => r.writeRow d
  | .readSci k r => r.readRow k
  | .writeSci k r d => r.writeRow k d
  | .tickTimer c => .tickTmr c
  | .tickSci k c => .tickSci k c
  | .sendSci k bs => .sendSci k bs
  | .pendSci k => .pendSci k

/-- The shape of an operation. -/
def shape : Instr → Shape
  | .rdTmrOut => .readOutside
  | .wrTmrOut d => .writeOutside d
  | .rdTmrTstr => .readTimer .tstr
  | .wrTmrTstr d => .writeTimer .tstr d
  | .rdTmrTsnc => .readTimer .tsnc
  | .wrTmrTsnc d => .writeTimer .tsnc d
  | .rdTmrTmdr => .readTimer .tmdr
  | .wrTmrTmdr d => .writeTimer .tmdr d
  | .rdTmrTfcr => .readTimer .tfcr
  | .wrTmrTfcr d => .writeTimer .tfcr d
  | .rdTmrTcr0 => .readTimer (.chan 0 .tcr)
  | .wrTmrTcr0 d => .writeTimer (.chan 0 .tcr) d
  | .rdTmrTior0 => .readTimer (.chan 0 .tior)
  | .wrTmrTior0 d => .writeTimer (.chan 0 .tior) d
  | .rdTmrTier0 => .readTimer (.chan 0 .tier)
  | .wrTmrTier0 d => .writeTimer (.chan 0 .tier) d
  | .rdTmrTsr0 => .readTimer (.chan 0 .tsr)
  | .wrTmrTsr0 d => .writeTimer (.chan 0 .tsr) d
  | .rdTmrTcnt0H => .readTimer (.chan 0 .tcntH)
  | .wrTmrTcnt0H d => .writeTimer (.chan 0 .tcntH) d
  | .rdTmrTcnt0L => .readTimer (.chan 0 .tcntL)
  | .wrTmrTcnt0L d => .writeTimer (.chan 0 .tcntL) d
  | .rdTmrGra0H => .readTimer (.chan 0 .graH)
  | .wrTmrGra0H d => .writeTimer (.chan 0 .graH) d
  | .rdTmrGra0L => .readTimer (.chan 0 .graL)
  | .wrTmrGra0L d => .writeTimer (.chan 0 .graL) d
  | .rdTmrGrb0H => .readTimer (.chan 0 .grbH)
  | .wrTmrGrb0H d => .writeTimer (.chan 0 .grbH) d
  | .rdTmrGrb0L => .readTimer (.chan 0 .grbL)
  | .wrTmrGrb0L d => .writeTimer (.chan 0 .grbL) d
  | .rdTmrTcr1 => .readTimer (.chan 1 .tcr)
  | .wrTmrTcr1 d => .writeTimer (.chan 1 .tcr) d
  | .rdTmrTior1 => .readTimer (.chan 1 .tior)
  | .wrTmrTior1 d => .writeTimer (.chan 1 .tior) d
  | .rdTmrTier1 => .readTimer (.chan 1 .tier)
  | .wrTmrTier1 d => .writeTimer (.chan 1 .tier) d
  | .rdTmrTsr1 => .readTimer (.chan 1 .tsr)
  | .wrTmrTsr1 d => .writeTimer (.chan 1 .tsr) d
  | .rdTmrTcnt1H => .readTimer (.chan 1 .tcntH)
  | .wrTmrTcnt1H d => .writeTimer (.chan 1 .tcntH) d
  | .rdTmrTcnt1L => .readTimer (.chan 1 .tcntL)
  | .wrTmrTcnt1L d => .writeTimer (.chan 1 .tcntL) d
  | .rdTmrGra1H => .readTimer (.chan 1 .graH)
  | .wrTmrGra1H d => .writeTimer (.chan 1 .graH) d
  | .rdTmrGra1L => .readTimer (.chan 1 .graL)
  | .wrTmrGra1L d => .writeTimer (.chan 1 .graL) d
  | .rdTmrGrb1H => .readTimer (.chan 1 .grbH)
  | .wrTmrGrb1H d => .writeTimer (.chan 1 .grbH) d
  | .rdTmrGrb1L => .readTimer (.chan 1 .grbL)
  | .wrTmrGrb1L d => .writeTimer (.chan 1 .grbL) d
  | .rdTmrTcr2 => .readTimer (.chan 2 .tcr)
  | .wrTmrTcr2 d => .writeTimer (.chan 2 .tcr) d
  | .rdTmrTior2 => .readTimer (.chan 2 .tior)
  | .wrTmrTior2 d => .writeTimer (.chan 2 .tior) d
  | .rdTmrTier2 => .readTimer (.chan 2 .tier)
  | .wrTmrTier2 d => .writeTimer (.chan 2 .tier) d
  | .rdTmrTsr2 => .readTimer (.chan 2 .tsr)
  | .wrTmrTsr2 d => .writeTimer (.chan 2 .tsr) d
  | .rdTmrTcnt2H => .readTimer (.chan 2 .tcntH)
  | .wrTmrTcnt2H d => .writeTimer (.chan 2 .tcntH) d
  | .rdTmrTcnt2L => .readTimer (.chan 2 .tcntL)
  | .wrTmrTcnt2L d => .writeTimer (.chan 2 .tcntL) d
  | .rdTmrGra2H => .readTimer (.chan 2 .graH)
  | .wrTmrGra2H d => .writeTimer (.chan 2 .graH) d
  | .rdTmrGra2L => .readTimer (.chan 2 .graL)
  | .wrTmrGra2L d => .writeTimer (.chan 2 .graL) d
  | .rdTmrGrb2H => .readTimer (.chan 2 .grbH)
  | .wrTmrGrb2H d => .writeTimer (.chan 2 .grbH) d
  | .rdTmrGrb2L => .readTimer (.chan 2 .grbL)
  | .wrTmrGrb2L d => .writeTimer (.chan 2 .grbL) d
  | .rdTmrTcr3 => .readTimer (.chan 3 .tcr)
  | .wrTmrTcr3 d => .writeTimer (.chan 3 .tcr) d
  | .rdTmrTior3 => .readTimer (.chan 3 .tior)
  | .wrTmrTior3 d => .writeTimer (.chan 3 .tior) d
  | .rdTmrTier3 => .readTimer (.chan 3 .tier)
  | .wrTmrTier3 d => .writeTimer (.chan 3 .tier) d
  | .rdTmrTsr3 => .readTimer (.chan 3 .tsr)
  | .wrTmrTsr3 d => .writeTimer (.chan 3 .tsr) d
  | .rdTmrTcnt3H => .readTimer (.chan 3 .tcntH)
  | .wrTmrTcnt3H d => .writeTimer (.chan 3 .tcntH) d
  | .rdTmrTcnt3L => .readTimer (.chan 3 .tcntL)
  | .wrTmrTcnt3L d => .writeTimer (.chan 3 .tcntL) d
  | .rdTmrGra3H => .readTimer (.chan 3 .graH)
  | .wrTmrGra3H d => .writeTimer (.chan 3 .graH) d
  | .rdTmrGra3L => .readTimer (.chan 3 .graL)
  | .wrTmrGra3L d => .writeTimer (.chan 3 .graL) d
  | .rdTmrGrb3H => .readTimer (.chan 3 .grbH)
  | .wrTmrGrb3H d => .writeTimer (.chan 3 .grbH) d
  | .rdTmrGrb3L => .readTimer (.chan 3 .grbL)
  | .wrTmrGrb3L d => .writeTimer (.chan 3 .grbL) d
  | .rdTmrTcr4 => .readTimer (.chan 4 .tcr)
  | .wrTmrTcr4 d => .writeTimer (.chan 4 .tcr) d
  | .rdTmrTior4 => .readTimer (.chan 4 .tior)
  | .wrTmrTior4 d => .writeTimer (.chan 4 .tior) d
  | .rdTmrTier4 => .readTimer (.chan 4 .tier)
  | .wrTmrTier4 d => .writeTimer (.chan 4 .tier) d
  | .rdTmrTsr4 => .readTimer (.chan 4 .tsr)
  | .wrTmrTsr4 d => .writeTimer (.chan 4 .tsr) d
  | .rdTmrTcnt4H => .readTimer (.chan 4 .tcntH)
  | .wrTmrTcnt4H d => .writeTimer (.chan 4 .tcntH) d
  | .rdTmrTcnt4L => .readTimer (.chan 4 .tcntL)
  | .wrTmrTcnt4L d => .writeTimer (.chan 4 .tcntL) d
  | .rdTmrGra4H => .readTimer (.chan 4 .graH)
  | .wrTmrGra4H d => .writeTimer (.chan 4 .graH) d
  | .rdTmrGra4L => .readTimer (.chan 4 .graL)
  | .wrTmrGra4L d => .writeTimer (.chan 4 .graL) d
  | .rdTmrGrb4H => .readTimer (.chan 4 .grbH)
  | .wrTmrGrb4H d => .writeTimer (.chan 4 .grbH) d
  | .rdTmrGrb4L => .readTimer (.chan 4 .grbL)
  | .wrTmrGrb4L d => .writeTimer (.chan 4 .grbL) d
  | .rdTmrScratch2C j => .readTimer (.scratch2C j)
  | .wrTmrScratch2C j d => .writeTimer (.scratch2C j) d
  | .rdTmrScratch30 j => .readTimer (.scratch30 j)
  | .wrTmrScratch30 j d => .writeTimer (.scratch30 j) d
  | .rdTmrScratch3C j => .readTimer (.scratch3C j)
  | .wrTmrScratch3C j d => .writeTimer (.scratch3C j) d
  | .rdSciScr k => .readSci k .scr
  | .wrSciScr k d => .writeSci k .scr d
  | .rdSciTdr k => .readSci k .tdr
  | .wrSciTdr k d => .writeSci k .tdr d
  | .rdSciSsr k => .readSci k .ssr
  | .wrSciSsr k d => .writeSci k .ssr d
  | .rdSciRdr k => .readSci k .rdr
  | .wrSciRdr k d => .writeSci k .rdr d
  | .rdSciRaw01 k j => .readSci k (.raw01 j)
  | .wrSciRaw01 k j d => .writeSci k (.raw01 j) d
  | .rdSciRaw67 k j => .readSci k (.raw67 j)
  | .wrSciRaw67 k j d => .writeSci k (.raw67 j) d
  | .tickTmr c => .tickTimer c
  | .tickSci k c => .tickSci k c
  | .sendSci k bs => .sendSci k bs
  | .pendSci k => .pendSci k

/-- Every meaning is its shape's. -/
theorem exec_eq_shape (i : Instr) (s : State) : exec i s = (shape i).run s := by cases i <;> rfl

/-- An operation is for the serial instance its shape is for. -/
theorem sci_eq_shape (i : Instr) : i.sci = (shape i).sci := by cases i <;> rfl

/-- An operation is the one its shape gives back: two operations of one shape are the same. -/
theorem shape_instr (i : Instr) : (shape i).instr = i := by cases i <;> rfl

/-- The shape of the operation a shape gives is that shape. -/
theorem shape_of_instr (a : Shape) : shape a.instr = a := by
  cases a with
  | readTimer r => cases r with
    | chan i r => cases r <;> fin_cases i <;> rfl
    | _ => rfl
  | writeTimer r d => cases r with
    | chan i r => cases r <;> fin_cases i <;> rfl
    | _ => rfl
  | readSci k r => cases r <;> rfl
  | writeSci k r d => cases r <;> rfl
  | _ => rfl

end Sys2Proof.Machine
end

