-- ==== Sys2Proof/Laws/State.lean ====
section
/-! SUPPORT. One lemma per field per update of the state, each true by definition. -/

namespace Sys2Proof.Machine

/-! ### The trace and the returned value -/

@[simp] theorem State.emit_params (s : State) (es : List Event) : (s.emit es).params = s.params := rfl
@[simp] theorem State.emit_timer (s : State) (es : List Event) : (s.emit es).timer = s.timer := rfl
@[simp] theorem State.emit_sci (s : State) (es : List Event) : (s.emit es).sci = s.sci := rfl
@[simp] theorem State.emit_trace (s : State) (es : List Event) : (s.emit es).trace = s.trace ++ es := rfl
@[simp] theorem State.emit_returned (s : State) (es : List Event) : (s.emit es).returned = s.returned := rfl
@[simp] theorem State.emit_ops (s : State) (es : List Event) : (s.emit es).ops = s.ops := rfl

@[simp] theorem State.answer_params (s : State) (r : Returned) : (s.answer r).params = s.params := rfl
@[simp] theorem State.answer_timer (s : State) (r : Returned) : (s.answer r).timer = s.timer := rfl
@[simp] theorem State.answer_sci (s : State) (r : Returned) : (s.answer r).sci = s.sci := rfl
@[simp] theorem State.answer_trace (s : State) (r : Returned) : (s.answer r).trace = s.trace := rfl
@[simp] theorem State.answer_returned (s : State) (r : Returned) : (s.answer r).returned = r := rfl
@[simp] theorem State.answer_ops (s : State) (r : Returned) : (s.answer r).ops = s.ops := rfl

@[simp] theorem State.withFetchWord_params (s : State) (n w : Nat) : (s.withFetchWord n w).params = s.params := rfl
@[simp] theorem State.withFetchWord_timer (s : State) (n w : Nat) : (s.withFetchWord n w).timer = s.timer := rfl
@[simp] theorem State.withFetchWord_sci (s : State) (n w : Nat) : (s.withFetchWord n w).sci = s.sci := rfl
@[simp] theorem State.withFetchWord_trace (s : State) (n w : Nat) : (s.withFetchWord n w).trace = s.trace := rfl
@[simp] theorem State.withFetchWord_returned (s : State) (n w : Nat) : (s.withFetchWord n w).returned = s.returned := rfl
@[simp] theorem State.withFetchWord_ops (s : State) (n w : Nat) : (s.withFetchWord n w).ops = Transaction.ofBits n w :: s.ops := rfl

@[simp] theorem State.issue_params (s : State) (ls : List Line) : (s.issue ls).params = s.params := rfl
@[simp] theorem State.issue_timer (s : State) (ls : List Line) : (s.issue ls).timer = s.timer := rfl
@[simp] theorem State.issue_sci (s : State) (ls : List Line) : (s.issue ls).sci = s.sci := rfl
@[simp] theorem State.issue_trace (s : State) (ls : List Line) : (s.issue ls).trace = s.trace := rfl
@[simp] theorem State.issue_returned (s : State) (ls : List Line) : (s.issue ls).returned = s.returned := rfl
@[simp] theorem State.issue_ops (s : State) (ls : List Line) : (s.issue ls).ops = s.ops ++ assemble s.params ls := rfl

/-! ### The timer -/

@[simp] theorem Timer.onChannel_start (t : Timer) (i : Fin 5) (f : Channel → Channel) : (t.onChannel i f).start = t.start := rfl
@[simp] theorem Timer.onChannel_sync (t : Timer) (i : Fin 5) (f : Channel → Channel) : (t.onChannel i f).sync = t.sync := rfl
@[simp] theorem Timer.onChannel_mode (t : Timer) (i : Fin 5) (f : Channel → Channel) : (t.onChannel i f).mode = t.mode := rfl
@[simp] theorem Timer.onChannel_fc (t : Timer) (i : Fin 5) (f : Channel → Channel) : (t.onChannel i f).fc = t.fc := rfl
@[simp] theorem Timer.onChannel_ch (t : Timer) (i : Fin 5) (f : Channel → Channel) : (t.onChannel i f).ch = t.ch.set i (f t.ch[i]) := rfl
@[simp] theorem Timer.onChannel_scratch (t : Timer) (i : Fin 5) (f : Channel → Channel) : (t.onChannel i f).scratch = t.scratch := rfl
@[simp] theorem Timer.onChannel_snap (t : Timer) (i : Fin 5) (f : Channel → Channel) : (t.onChannel i f).snap = t.snap := rfl

@[simp] theorem Channel.subtick_control (ch : Channel) : (ch.subtick).control = ch.control := rfl
@[simp] theorem Channel.subtick_ie (ch : Channel) : (ch.subtick).ie = ch.ie := rfl
@[simp] theorem Channel.subtick_status (ch : Channel) : (ch.subtick).status = ch.statusAfter := rfl
@[simp] theorem Channel.subtick_counter (ch : Channel) : (ch.subtick).counter = ch.nextCounter := rfl
@[simp] theorem Channel.subtick_compareA (ch : Channel) : (ch.subtick).compareA = ch.compareA := rfl
@[simp] theorem Channel.subtick_compareB (ch : Channel) : (ch.subtick).compareB = ch.compareB := rfl

@[simp] theorem Channel.writeReg_tcr_control (ch : Channel) (d : Byte) : (ch.writeReg d .tcr).control = d := rfl
@[simp] theorem Channel.writeReg_tcr_ie (ch : Channel) (d : Byte) : (ch.writeReg d .tcr).ie = ch.ie := rfl
@[simp] theorem Channel.writeReg_tcr_status (ch : Channel) (d : Byte) : (ch.writeReg d .tcr).status = ch.status := rfl
@[simp] theorem Channel.writeReg_tcr_counter (ch : Channel) (d : Byte) : (ch.writeReg d .tcr).counter = ch.counter := rfl
@[simp] theorem Channel.writeReg_tcr_compareA (ch : Channel) (d : Byte) : (ch.writeReg d .tcr).compareA = ch.compareA := rfl
@[simp] theorem Channel.writeReg_tcr_compareB (ch : Channel) (d : Byte) : (ch.writeReg d .tcr).compareB = ch.compareB := rfl

@[simp] theorem Channel.writeReg_tier_control (ch : Channel) (d : Byte) : (ch.writeReg d .tier).control = ch.control := rfl
@[simp] theorem Channel.writeReg_tier_ie (ch : Channel) (d : Byte) : (ch.writeReg d .tier).ie = d := rfl
@[simp] theorem Channel.writeReg_tier_status (ch : Channel) (d : Byte) : (ch.writeReg d .tier).status = ch.status := rfl
@[simp] theorem Channel.writeReg_tier_counter (ch : Channel) (d : Byte) : (ch.writeReg d .tier).counter = ch.counter := rfl
@[simp] theorem Channel.writeReg_tier_compareA (ch : Channel) (d : Byte) : (ch.writeReg d .tier).compareA = ch.compareA := rfl
@[simp] theorem Channel.writeReg_tier_compareB (ch : Channel) (d : Byte) : (ch.writeReg d .tier).compareB = ch.compareB := rfl

@[simp] theorem Channel.writeReg_tsr_control (ch : Channel) (d : Byte) : (ch.writeReg d .tsr).control = ch.control := rfl
@[simp] theorem Channel.writeReg_tsr_ie (ch : Channel) (d : Byte) : (ch.writeReg d .tsr).ie = ch.ie := rfl
@[simp] theorem Channel.writeReg_tsr_status (ch : Channel) (d : Byte) : (ch.writeReg d .tsr).status = d := rfl
@[simp] theorem Channel.writeReg_tsr_counter (ch : Channel) (d : Byte) : (ch.writeReg d .tsr).counter = ch.counter := rfl
@[simp] theorem Channel.writeReg_tsr_compareA (ch : Channel) (d : Byte) : (ch.writeReg d .tsr).compareA = ch.compareA := rfl
@[simp] theorem Channel.writeReg_tsr_compareB (ch : Channel) (d : Byte) : (ch.writeReg d .tsr).compareB = ch.compareB := rfl

@[simp] theorem Channel.writeReg_tcntH_control (ch : Channel) (d : Byte) : (ch.writeReg d .tcntH).control = ch.control := rfl
@[simp] theorem Channel.writeReg_tcntH_ie (ch : Channel) (d : Byte) : (ch.writeReg d .tcntH).ie = ch.ie := rfl
@[simp] theorem Channel.writeReg_tcntH_status (ch : Channel) (d : Byte) : (ch.writeReg d .tcntH).status = ch.status := rfl
@[simp] theorem Channel.writeReg_tcntH_counter (ch : Channel) (d : Byte) : (ch.writeReg d .tcntH).counter = withHi ch.counter d := rfl
@[simp] theorem Channel.writeReg_tcntH_compareA (ch : Channel) (d : Byte) : (ch.writeReg d .tcntH).compareA = ch.compareA := rfl
@[simp] theorem Channel.writeReg_tcntH_compareB (ch : Channel) (d : Byte) : (ch.writeReg d .tcntH).compareB = ch.compareB := rfl

@[simp] theorem Channel.writeReg_tcntL_control (ch : Channel) (d : Byte) : (ch.writeReg d .tcntL).control = ch.control := rfl
@[simp] theorem Channel.writeReg_tcntL_ie (ch : Channel) (d : Byte) : (ch.writeReg d .tcntL).ie = ch.ie := rfl
@[simp] theorem Channel.writeReg_tcntL_status (ch : Channel) (d : Byte) : (ch.writeReg d .tcntL).status = ch.status := rfl
@[simp] theorem Channel.writeReg_tcntL_counter (ch : Channel) (d : Byte) : (ch.writeReg d .tcntL).counter = withLo ch.counter d := rfl
@[simp] theorem Channel.writeReg_tcntL_compareA (ch : Channel) (d : Byte) : (ch.writeReg d .tcntL).compareA = ch.compareA := rfl
@[simp] theorem Channel.writeReg_tcntL_compareB (ch : Channel) (d : Byte) : (ch.writeReg d .tcntL).compareB = ch.compareB := rfl

@[simp] theorem Channel.writeReg_graH_control (ch : Channel) (d : Byte) : (ch.writeReg d .graH).control = ch.control := rfl
@[simp] theorem Channel.writeReg_graH_ie (ch : Channel) (d : Byte) : (ch.writeReg d .graH).ie = ch.ie := rfl
@[simp] theorem Channel.writeReg_graH_status (ch : Channel) (d : Byte) : (ch.writeReg d .graH).status = ch.status := rfl
@[simp] theorem Channel.writeReg_graH_counter (ch : Channel) (d : Byte) : (ch.writeReg d .graH).counter = ch.counter := rfl
@[simp] theorem Channel.writeReg_graH_compareA (ch : Channel) (d : Byte) : (ch.writeReg d .graH).compareA = withHi ch.compareA d := rfl
@[simp] theorem Channel.writeReg_graH_compareB (ch : Channel) (d : Byte) : (ch.writeReg d .graH).compareB = ch.compareB := rfl

@[simp] theorem Channel.writeReg_graL_control (ch : Channel) (d : Byte) : (ch.writeReg d .graL).control = ch.control := rfl
@[simp] theorem Channel.writeReg_graL_ie (ch : Channel) (d : Byte) : (ch.writeReg d .graL).ie = ch.ie := rfl
@[simp] theorem Channel.writeReg_graL_status (ch : Channel) (d : Byte) : (ch.writeReg d .graL).status = ch.status := rfl
@[simp] theorem Channel.writeReg_graL_counter (ch : Channel) (d : Byte) : (ch.writeReg d .graL).counter = ch.counter := rfl
@[simp] theorem Channel.writeReg_graL_compareA (ch : Channel) (d : Byte) : (ch.writeReg d .graL).compareA = withLo ch.compareA d := rfl
@[simp] theorem Channel.writeReg_graL_compareB (ch : Channel) (d : Byte) : (ch.writeReg d .graL).compareB = ch.compareB := rfl

@[simp] theorem Channel.writeReg_grbH_control (ch : Channel) (d : Byte) : (ch.writeReg d .grbH).control = ch.control := rfl
@[simp] theorem Channel.writeReg_grbH_ie (ch : Channel) (d : Byte) : (ch.writeReg d .grbH).ie = ch.ie := rfl
@[simp] theorem Channel.writeReg_grbH_status (ch : Channel) (d : Byte) : (ch.writeReg d .grbH).status = ch.status := rfl
@[simp] theorem Channel.writeReg_grbH_counter (ch : Channel) (d : Byte) : (ch.writeReg d .grbH).counter = ch.counter := rfl
@[simp] theorem Channel.writeReg_grbH_compareA (ch : Channel) (d : Byte) : (ch.writeReg d .grbH).compareA = ch.compareA := rfl
@[simp] theorem Channel.writeReg_grbH_compareB (ch : Channel) (d : Byte) : (ch.writeReg d .grbH).compareB = withHi ch.compareB d := rfl

@[simp] theorem Channel.writeReg_grbL_control (ch : Channel) (d : Byte) : (ch.writeReg d .grbL).control = ch.control := rfl
@[simp] theorem Channel.writeReg_grbL_ie (ch : Channel) (d : Byte) : (ch.writeReg d .grbL).ie = ch.ie := rfl
@[simp] theorem Channel.writeReg_grbL_status (ch : Channel) (d : Byte) : (ch.writeReg d .grbL).status = ch.status := rfl
@[simp] theorem Channel.writeReg_grbL_counter (ch : Channel) (d : Byte) : (ch.writeReg d .grbL).counter = ch.counter := rfl
@[simp] theorem Channel.writeReg_grbL_compareA (ch : Channel) (d : Byte) : (ch.writeReg d .grbL).compareA = ch.compareA := rfl
@[simp] theorem Channel.writeReg_grbL_compareB (ch : Channel) (d : Byte) : (ch.writeReg d .grbL).compareB = withLo ch.compareB d := rfl

@[simp] theorem Channel.writeReg_tior (ch : Channel) (d : Byte) : ch.writeReg d .tior = ch := rfl

@[simp] theorem Timer.writeReg_tstr_start (t : Timer) (d : Byte) : (t.writeReg d .tstr).start = d := rfl
@[simp] theorem Timer.writeReg_tstr_sync (t : Timer) (d : Byte) : (t.writeReg d .tstr).sync = t.sync := rfl
@[simp] theorem Timer.writeReg_tstr_mode (t : Timer) (d : Byte) : (t.writeReg d .tstr).mode = t.mode := rfl
@[simp] theorem Timer.writeReg_tstr_fc (t : Timer) (d : Byte) : (t.writeReg d .tstr).fc = t.fc := rfl
@[simp] theorem Timer.writeReg_tstr_ch (t : Timer) (d : Byte) : (t.writeReg d .tstr).ch = t.ch := rfl
@[simp] theorem Timer.writeReg_tstr_scratch (t : Timer) (d : Byte) : (t.writeReg d .tstr).scratch = t.scratch := rfl
@[simp] theorem Timer.writeReg_tstr_snap (t : Timer) (d : Byte) : (t.writeReg d .tstr).snap = t.snap := rfl

@[simp] theorem Timer.writeReg_tsnc_start (t : Timer) (d : Byte) : (t.writeReg d .tsnc).start = t.start := rfl
@[simp] theorem Timer.writeReg_tsnc_sync (t : Timer) (d : Byte) : (t.writeReg d .tsnc).sync = d := rfl
@[simp] theorem Timer.writeReg_tsnc_mode (t : Timer) (d : Byte) : (t.writeReg d .tsnc).mode = t.mode := rfl
@[simp] theorem Timer.writeReg_tsnc_fc (t : Timer) (d : Byte) : (t.writeReg d .tsnc).fc = t.fc := rfl
@[simp] theorem Timer.writeReg_tsnc_ch (t : Timer) (d : Byte) : (t.writeReg d .tsnc).ch = t.ch := rfl
@[simp] theorem Timer.writeReg_tsnc_scratch (t : Timer) (d : Byte) : (t.writeReg d .tsnc).scratch = t.scratch := rfl
@[simp] theorem Timer.writeReg_tsnc_snap (t : Timer) (d : Byte) : (t.writeReg d .tsnc).snap = t.snap := rfl

@[simp] theorem Timer.writeReg_tmdr_start (t : Timer) (d : Byte) : (t.writeReg d .tmdr).start = t.start := rfl
@[simp] theorem Timer.writeReg_tmdr_sync (t : Timer) (d : Byte) : (t.writeReg d .tmdr).sync = t.sync := rfl
@[simp] theorem Timer.writeReg_tmdr_mode (t : Timer) (d : Byte) : (t.writeReg d .tmdr).mode = d := rfl
@[simp] theorem Timer.writeReg_tmdr_fc (t : Timer) (d : Byte) : (t.writeReg d .tmdr).fc = t.fc := rfl
@[simp] theorem Timer.writeReg_tmdr_ch (t : Timer) (d : Byte) : (t.writeReg d .tmdr).ch = t.ch := rfl
@[simp] theorem Timer.writeReg_tmdr_scratch (t : Timer) (d : Byte) : (t.writeReg d .tmdr).scratch = t.scratch := rfl
@[simp] theorem Timer.writeReg_tmdr_snap (t : Timer) (d : Byte) : (t.writeReg d .tmdr).snap = t.snap := rfl

@[simp] theorem Timer.writeReg_tfcr_start (t : Timer) (d : Byte) : (t.writeReg d .tfcr).start = t.start := rfl
@[simp] theorem Timer.writeReg_tfcr_sync (t : Timer) (d : Byte) : (t.writeReg d .tfcr).sync = t.sync := rfl
@[simp] theorem Timer.writeReg_tfcr_mode (t : Timer) (d : Byte) : (t.writeReg d .tfcr).mode = t.mode := rfl
@[simp] theorem Timer.writeReg_tfcr_fc (t : Timer) (d : Byte) : (t.writeReg d .tfcr).fc = d := rfl
@[simp] theorem Timer.writeReg_tfcr_ch (t : Timer) (d : Byte) : (t.writeReg d .tfcr).ch = t.ch := rfl
@[simp] theorem Timer.writeReg_tfcr_scratch (t : Timer) (d : Byte) : (t.writeReg d .tfcr).scratch = t.scratch := rfl
@[simp] theorem Timer.writeReg_tfcr_snap (t : Timer) (d : Byte) : (t.writeReg d .tfcr).snap = t.snap := rfl

@[simp] theorem Timer.writeReg_chan_start (t : Timer) (d : Byte) (i : Fin 5) (r : ChanReg) : (t.writeReg d (.chan i r)).start = t.start := rfl
@[simp] theorem Timer.writeReg_chan_sync (t : Timer) (d : Byte) (i : Fin 5) (r : ChanReg) : (t.writeReg d (.chan i r)).sync = t.sync := rfl
@[simp] theorem Timer.writeReg_chan_mode (t : Timer) (d : Byte) (i : Fin 5) (r : ChanReg) : (t.writeReg d (.chan i r)).mode = t.mode := rfl
@[simp] theorem Timer.writeReg_chan_fc (t : Timer) (d : Byte) (i : Fin 5) (r : ChanReg) : (t.writeReg d (.chan i r)).fc = t.fc := rfl
@[simp] theorem Timer.writeReg_chan_ch (t : Timer) (d : Byte) (i : Fin 5) (r : ChanReg) : (t.writeReg d (.chan i r)).ch = t.ch.set i (t.ch[i].writeReg d r) := rfl
@[simp] theorem Timer.writeReg_chan_scratch (t : Timer) (d : Byte) (i : Fin 5) (r : ChanReg) : (t.writeReg d (.chan i r)).scratch = t.scratch := rfl
@[simp] theorem Timer.writeReg_chan_snap (t : Timer) (d : Byte) (i : Fin 5) (r : ChanReg) : (t.writeReg d (.chan i r)).snap = t.snap := rfl

@[simp] theorem Timer.writeReg_scratch2C_start (t : Timer) (d : Byte) (j : Fin 4) : (t.writeReg d (.scratch2C j)).start = t.start := rfl
@[simp] theorem Timer.writeReg_scratch2C_sync (t : Timer) (d : Byte) (j : Fin 4) : (t.writeReg d (.scratch2C j)).sync = t.sync := rfl
@[simp] theorem Timer.writeReg_scratch2C_mode (t : Timer) (d : Byte) (j : Fin 4) : (t.writeReg d (.scratch2C j)).mode = t.mode := rfl
@[simp] theorem Timer.writeReg_scratch2C_fc (t : Timer) (d : Byte) (j : Fin 4) : (t.writeReg d (.scratch2C j)).fc = t.fc := rfl
@[simp] theorem Timer.writeReg_scratch2C_ch (t : Timer) (d : Byte) (j : Fin 4) : (t.writeReg d (.scratch2C j)).ch = t.ch := rfl
@[simp] theorem Timer.writeReg_scratch2C_scratch (t : Timer) (d : Byte) (j : Fin 4) : (t.writeReg d (.scratch2C j)).scratch = t.scratch.set (scratch2CIndex j) d := rfl
@[simp] theorem Timer.writeReg_scratch2C_snap (t : Timer) (d : Byte) (j : Fin 4) : (t.writeReg d (.scratch2C j)).snap = t.snap := rfl

@[simp] theorem Timer.writeReg_scratch30_start (t : Timer) (d : Byte) (j : Fin 2) : (t.writeReg d (.scratch30 j)).start = t.start := rfl
@[simp] theorem Timer.writeReg_scratch30_sync (t : Timer) (d : Byte) (j : Fin 2) : (t.writeReg d (.scratch30 j)).sync = t.sync := rfl
@[simp] theorem Timer.writeReg_scratch30_mode (t : Timer) (d : Byte) (j : Fin 2) : (t.writeReg d (.scratch30 j)).mode = t.mode := rfl
@[simp] theorem Timer.writeReg_scratch30_fc (t : Timer) (d : Byte) (j : Fin 2) : (t.writeReg d (.scratch30 j)).fc = t.fc := rfl
@[simp] theorem Timer.writeReg_scratch30_ch (t : Timer) (d : Byte) (j : Fin 2) : (t.writeReg d (.scratch30 j)).ch = t.ch := rfl
@[simp] theorem Timer.writeReg_scratch30_scratch (t : Timer) (d : Byte) (j : Fin 2) : (t.writeReg d (.scratch30 j)).scratch = t.scratch.set (scratch30Index j) d := rfl
@[simp] theorem Timer.writeReg_scratch30_snap (t : Timer) (d : Byte) (j : Fin 2) : (t.writeReg d (.scratch30 j)).snap = t.snap := rfl

@[simp] theorem Timer.writeReg_scratch3C_start (t : Timer) (d : Byte) (j : Fin 4) : (t.writeReg d (.scratch3C j)).start = t.start := rfl
@[simp] theorem Timer.writeReg_scratch3C_sync (t : Timer) (d : Byte) (j : Fin 4) : (t.writeReg d (.scratch3C j)).sync = t.sync := rfl
@[simp] theorem Timer.writeReg_scratch3C_mode (t : Timer) (d : Byte) (j : Fin 4) : (t.writeReg d (.scratch3C j)).mode = t.mode := rfl
@[simp] theorem Timer.writeReg_scratch3C_fc (t : Timer) (d : Byte) (j : Fin 4) : (t.writeReg d (.scratch3C j)).fc = t.fc := rfl
@[simp] theorem Timer.writeReg_scratch3C_ch (t : Timer) (d : Byte) (j : Fin 4) : (t.writeReg d (.scratch3C j)).ch = t.ch := rfl
@[simp] theorem Timer.writeReg_scratch3C_scratch (t : Timer) (d : Byte) (j : Fin 4) : (t.writeReg d (.scratch3C j)).scratch = t.scratch.set (scratch3CIndex j) d := rfl
@[simp] theorem Timer.writeReg_scratch3C_snap (t : Timer) (d : Byte) (j : Fin 4) : (t.writeReg d (.scratch3C j)).snap = t.snap := rfl

/-! ### A serial instance -/

@[simp] theorem Sci.writeScr_raw (x : Sci) (d : Byte) : (x.writeScr d).raw = x.raw := rfl
@[simp] theorem Sci.writeScr_control (x : Sci) (d : Byte) : (x.writeScr d).control = d := rfl
@[simp] theorem Sci.writeScr_txData (x : Sci) (d : Byte) : (x.writeScr d).txData = x.txData := rfl
@[simp] theorem Sci.writeScr_status (x : Sci) (d : Byte) : (x.writeScr d).status = x.status := rfl
@[simp] theorem Sci.writeScr_rxData (x : Sci) (d : Byte) : (x.writeScr d).rxData = x.rxData := rfl
@[simp] theorem Sci.writeScr_last (x : Sci) (d : Byte) : (x.writeScr d).last = x.last := rfl
@[simp] theorem Sci.writeScr_rxq (x : Sci) (d : Byte) : (x.writeScr d).rxq = x.rxq := rfl
@[simp] theorem Sci.writeScr_o (x : Sci) (d : Byte) : (x.writeScr d).o = x.o := rfl

/-! ### Construction -/

@[simp] theorem State.resetWith_params (p : Params) (scratch : Vector Byte 64) (raw : Nat → Vector Byte 8) : (State.resetWith p scratch raw).params = p := rfl
@[simp] theorem State.resetWith_timer (p : Params) (scratch : Vector Byte 64) (raw : Nat → Vector Byte 8) : (State.resetWith p scratch raw).timer = Timer.resetWith p scratch := rfl
@[simp] theorem State.resetWith_trace (p : Params) (scratch : Vector Byte 64) (raw : Nat → Vector Byte 8) : (State.resetWith p scratch raw).trace = [] := rfl
@[simp] theorem State.resetWith_returned (p : Params) (scratch : Vector Byte 64) (raw : Nat → Vector Byte 8) : (State.resetWith p scratch raw).returned = .none := rfl
@[simp] theorem State.resetWith_ops (p : Params) (scratch : Vector Byte 64) (raw : Nat → Vector Byte 8) : (State.resetWith p scratch raw).ops = [] := rfl

@[simp] theorem Timer.resetWith_start (p : Params) (scratch : Vector Byte 64) : (Timer.resetWith p scratch).start = 0x00 := rfl
@[simp] theorem Timer.resetWith_sync (p : Params) (scratch : Vector Byte 64) : (Timer.resetWith p scratch).sync = 0x00 := rfl
@[simp] theorem Timer.resetWith_mode (p : Params) (scratch : Vector Byte 64) : (Timer.resetWith p scratch).mode = 0x00 := rfl
@[simp] theorem Timer.resetWith_fc (p : Params) (scratch : Vector Byte 64) : (Timer.resetWith p scratch).fc = 0x00 := rfl
@[simp] theorem Timer.resetWith_scratch (p : Params) (scratch : Vector Byte 64) : (Timer.resetWith p scratch).scratch = scratch := rfl
@[simp] theorem Timer.resetWith_snap (p : Params) (scratch : Vector Byte 64) : (Timer.resetWith p scratch).snap = p.cycle0 := rfl

@[simp] theorem Sci.resetWith_raw (p : Params) (o : Nat) (raw : Vector Byte 8) : (Sci.resetWith p o raw).raw = raw := rfl
@[simp] theorem Sci.resetWith_control (p : Params) (o : Nat) (raw : Vector Byte 8) : (Sci.resetWith p o raw).control = 0x00 := rfl
@[simp] theorem Sci.resetWith_txData (p : Params) (o : Nat) (raw : Vector Byte 8) : (Sci.resetWith p o raw).txData = 0x00 := rfl
@[simp] theorem Sci.resetWith_status (p : Params) (o : Nat) (raw : Vector Byte 8) : (Sci.resetWith p o raw).status = 0x80 := rfl
@[simp] theorem Sci.resetWith_rxData (p : Params) (o : Nat) (raw : Vector Byte 8) : (Sci.resetWith p o raw).rxData = 0x00 := rfl
@[simp] theorem Sci.resetWith_txTimer (p : Params) (o : Nat) (raw : Vector Byte 8) : (Sci.resetWith p o raw).txTimer = 0 := rfl
@[simp] theorem Sci.resetWith_last (p : Params) (o : Nat) (raw : Vector Byte 8) : (Sci.resetWith p o raw).last = p.cycle0 := rfl
@[simp] theorem Sci.resetWith_rxq (p : Params) (o : Nat) (raw : Vector Byte 8) : (Sci.resetWith p o raw).rxq = [] := rfl
@[simp] theorem Sci.resetWith_o (p : Params) (o : Nat) (raw : Vector Byte 8) : (Sci.resetWith p o raw).o = o := rfl

end Sys2Proof.Machine
end

