-- ==== Sys2Proof/Laws/Operands.lean ====
section
/-! SUPPORT. The byte halves of a 16-bit register as numbers (20_memory.md R42, R43), and reads after writes of a register. -/

namespace Sys2Proof.Machine

theorem hiByte_eq (v : Half) : hiByte v = BitVec.ofNat 8 (v.toNat / 256) := by
  apply BitVec.eq_of_toNat_eq
  simp [hiByte, Nat.shiftRight_eq_div_pow]

theorem loByte_eq (v : Half) : loByte v = BitVec.ofNat 8 (v.toNat % 256) := by
  apply BitVec.eq_of_toNat_eq
  simp [loByte]

theorem append_toNat (hi lo : Byte) : (hi ++ lo : BitVec 16).toNat = hi.toNat * 256 + lo.toNat := by
  rw [BitVec.toNat_append, ← Nat.shiftLeft_add_eq_or_of_lt lo.isLt, Nat.shiftLeft_eq]

theorem withHi_eq (v : Half) (d : Byte) : withHi v d = BitVec.ofNat 16 (d.toNat * 256 + v.toNat % 256) := by
  apply BitVec.eq_of_toNat_eq
  have hm : v.toNat &&& 0x00FF = v.toNat % 256 := Nat.and_two_pow_sub_one_eq_mod v.toNat 8
  have hd : d.toNat <<< 8 % 65536 = d.toNat <<< 8 := by rw [Nat.shiftLeft_eq]; omega
  have ho : d.toNat <<< 8 ||| v.toNat % 256 = d.toNat <<< 8 + v.toNat % 256 :=
    (Nat.shiftLeft_add_eq_or_of_lt (Nat.mod_lt _ (by decide)) d.toNat).symm
  have : (withHi v d).toNat = d.toNat <<< 8 % 65536 ||| (v.toNat &&& 0x00FF) := by
    simp [withHi, show d.toNat % 65536 = d.toNat by omega]
  rw [this, hm, hd, ho, Nat.shiftLeft_eq, BitVec.toNat_ofNat]
  omega

theorem withLo_eq (v : Half) (d : Byte) : withLo v d = BitVec.ofNat 16 (v.toNat / 256 * 256 + d.toNat) := by
  apply BitVec.eq_of_toNat_eq
  have hm : v.toNat &&& 0xFF00 = (v.toNat / 256) <<< 8 := by
    apply Nat.eq_of_testBit_eq
    intro i
    simp only [Nat.testBit_and, Nat.testBit_shiftLeft, ← Nat.shiftRight_eq_div_pow v.toNat 8, Nat.testBit_shiftRight]
    by_cases h16 : i < 16
    · interval_cases i <;> simp [Nat.testBit, Nat.shiftRight_eq_div_pow]
    · have : v.toNat.testBit i = false := Nat.testBit_lt_two_pow (Nat.lt_of_lt_of_le v.isLt (Nat.pow_le_pow_right (by decide) (by omega)))
      simp [this, show 8 + (i - 8) = i by omega]
  have ho : (v.toNat / 256) <<< 8 ||| d.toNat = (v.toNat / 256) <<< 8 + d.toNat :=
    (Nat.shiftLeft_add_eq_or_of_lt d.isLt (v.toNat / 256)).symm
  have hd : d.toNat % 65536 = d.toNat := by omega
  have : (withLo v d).toNat = (v.toNat &&& 0xFF00) ||| d.toNat % 65536 := by simp [withLo]
  rw [this, hm, hd, ho, Nat.shiftLeft_eq, BitVec.toNat_ofNat]
  omega

/-- A high-byte write is the new byte before the old low byte. -/
theorem withHi_append (v : Half) (d : Byte) : withHi v d = (d ++ loByte v : BitVec 16) := by
  apply BitVec.eq_of_toNat_eq
  rw [withHi_eq, append_toNat, loByte_eq, BitVec.toNat_ofNat, BitVec.toNat_ofNat]
  omega

/-- A low-byte write is the old high byte before the new byte. -/
theorem withLo_append (v : Half) (d : Byte) : withLo v d = (hiByte v ++ d : BitVec 16) := by
  apply BitVec.eq_of_toNat_eq
  rw [withLo_eq, append_toNat, hiByte_eq, BitVec.toNat_ofNat, BitVec.toNat_ofNat]
  omega

@[simp] theorem hiByte_append (hi lo : Byte) : hiByte (hi ++ lo : BitVec 16) = hi := by
  apply BitVec.eq_of_toNat_eq
  rw [hiByte_eq, append_toNat, BitVec.toNat_ofNat]
  omega

@[simp] theorem loByte_append (hi lo : Byte) : loByte (hi ++ lo : BitVec 16) = lo := by
  apply BitVec.eq_of_toNat_eq
  rw [loByte_eq, append_toNat, BitVec.toNat_ofNat]
  omega

@[simp] theorem hiByte_withHi (v : Half) (d : Byte) : hiByte (withHi v d) = d := by simp [withHi_append]
@[simp] theorem loByte_withHi (v : Half) (d : Byte) : loByte (withHi v d) = loByte v := by simp [withHi_append]
@[simp] theorem hiByte_withLo (v : Half) (d : Byte) : hiByte (withLo v d) = hiByte v := by simp [withLo_append]
@[simp] theorem loByte_withLo (v : Half) (d : Byte) : loByte (withLo v d) = d := by simp [withLo_append]

/-- A channel register reads back what was written to it; TIOR reads 0x00. -/
theorem Channel.readReg_writeReg_self (ch : Channel) (d : Byte) (r : ChanReg) :
    (ch.writeReg d r).readReg r = if r = .tior then 0x00 else d := by
  cases r <;> simp [Channel.readReg]

/-- A write to one channel register leaves what every other one reads. -/
theorem Channel.readReg_writeReg_of_ne (ch : Channel) (d : Byte) (r r' : ChanReg) (h : r' ≠ r) :
    (ch.writeReg d r).readReg r' = ch.readReg r' := by
  cases r <;> cases r' <;> first | exact absurd rfl h | simp [Channel.readReg]

end Sys2Proof.Machine
end

