-- ==== Sys2Proof/Laws/Ops.lean ====
section
/-! SUPPORT. What each shared operation can do, said once: if it answers a next state, then which one; and when it stops. -/

namespace Sys2Proof.Machine

theorem readTimer_next (r : TmrReg) (s t : State) :
    readTimer r s = .next t ↔ t = s.answer (.byte (s.timer.readReg r)) := by
  simp [readTimer, eq_comm]

theorem writeTimer_next (r : TmrReg) (d : Byte) (s t : State) :
    writeTimer r d s = .next t ↔ t = { s with timer := s.timer.writeReg d r, returned := .none } := by
  simp [writeTimer, State.answer, eq_comm]

theorem readOutside_next (s t : State) : readOutside s = .next t ↔ t = s.answer (.byte 0x00) := by
  simp [readOutside, eq_comm]

theorem writeOutside_next (d : Byte) (s t : State) : writeOutside d s = .next t ↔ t = s.answer .none := by
  simp [writeOutside, eq_comm]

/-- Looking at an instance answers a next state exactly when the instance is there; only the value returned changes. -/
theorem askSci_next (k : Fin 8) (f : Sci → Returned) (s t : State) :
    askSci k f s = .next t ↔ ∃ x, s.sci[k.val]? = some x ∧ t = s.answer (f x) := by
  unfold askSci
  cases h : s.sci[k.val]? with
  | none => simp
  | some x => simp [eq_comm]

/-- Updating an instance answers a next state exactly when the instance is there; the instance, the trace and the value returned change. -/
theorem updateSci_next (k : Fin 8) (f : Sci → Sci × List Event) (s t : State) :
    updateSci k f s = .next t ↔ ∃ x, s.sci[k.val]? = some x ∧
      t = { s with sci := s.sci.set k.val (f x).1, trace := s.trace ++ (f x).2, returned := .none } := by
  unfold updateSci
  cases h : s.sci[k.val]? with
  | none => simp
  | some x => simp [State.answer, State.emit, eq_comm]

theorem askSci_ne_fault (k : Fin 8) (f : Sci → Returned) (s : State) (e : Fault) : askSci k f s ≠ .fault e := by
  unfold askSci; split <;> simp

theorem updateSci_ne_fault (k : Fin 8) (f : Sci → Sci × List Event) (s : State) (e : Fault) : updateSci k f s ≠ .fault e := by
  unfold updateSci; split <;> simp

theorem askSci_refused (k : Fin 8) (f : Sci → Returned) (s : State) (r : Refusal) :
    askSci k f s = .refused r ↔ s.sci.length ≤ k.val ∧ r = .reserved (.noSuchSci k) := by
  unfold askSci
  cases h : s.sci[k.val]? with
  | none => simp [List.getElem?_eq_none_iff.mp h, eq_comm]
  | some x => simp [(List.getElem?_eq_some_iff.mp h).1]

theorem updateSci_refused (k : Fin 8) (f : Sci → Sci × List Event) (s : State) (r : Refusal) :
    updateSci k f s = .refused r ↔ s.sci.length ≤ k.val ∧ r = .reserved (.noSuchSci k) := by
  unfold updateSci
  cases h : s.sci[k.val]? with
  | none => simp [List.getElem?_eq_none_iff.mp h, eq_comm]
  | some x => simp [(List.getElem?_eq_some_iff.mp h).1]

/-- A serial tick answers a next state exactly when the instance is there and the cycle value is not below its last one. -/
theorem tickSci_next (k : Fin 8) (c : Nat) (s t : State) :
    tickSci k c s = .next t ↔ ∃ x, s.sci[k.val]? = some x ∧ x.last ≤ c ∧
      t = { s with sci := s.sci.set k.val (x.tick s.params.clockTime c).1
                   trace := s.trace ++ (x.tick s.params.clockTime c).2, returned := .none } := by
  unfold tickSci
  cases h : s.sci[k.val]? with
  | none => simp
  | some x =>
    by_cases hc : c < x.last
    · simp [hc]
    · simp only [hc, if_false, updateSci_next]
      simp [h, Nat.le_of_not_lt hc]

theorem tickSci_fault (k : Fin 8) (c : Nat) (s : State) (e : Fault) :
    tickSci k c s = .fault e ↔ ∃ x, s.sci[k.val]? = some x ∧ c < x.last := by
  unfold tickSci
  cases h : s.sci[k.val]? with
  | none => simp
  | some x =>
    cases e
    by_cases hc : c < x.last
    · simp [hc]
    · simp [hc, updateSci_ne_fault]

theorem tickSci_refused (k : Fin 8) (c : Nat) (s : State) (r : Refusal) :
    tickSci k c s = .refused r ↔ s.sci.length ≤ k.val ∧ r = .reserved (.noSuchSci k) := by
  unfold tickSci
  cases h : s.sci[k.val]? with
  | none => simp [List.getElem?_eq_none_iff.mp h, eq_comm]
  | some x =>
    have hl := (List.getElem?_eq_some_iff.mp h).1
    by_cases hc : c < x.last
    · simp [hc, hl]
    · simp only [hc, if_false, updateSci_refused]

/-- The next transaction, and the state in which it has been issued. -/
theorem fetch_eq_some (s s' : State) (t : Transaction) :
    s.fetch = some (t, s') ↔ ∃ rest, s.ops = t :: rest ∧ s' = { s with ops := rest } := by
  unfold State.fetch
  cases h : s.ops with
  | nil => simp
  | cons a rest =>
    constructor
    · intro e; cases e; exact ⟨rest, rfl, rfl⟩
    · rintro ⟨r, hr, rfl⟩; cases hr; rfl

end Sys2Proof.Machine
end

