-- ==== Sys2Proof/Laws/PerInstr.lean ====
section
/-! SUPPORT. Statements made for every operation as syntax: the word it is encoded as lies in its row of the opcode table (the row's mask
and match), for every operand. -/

namespace Sys2Proof.Laws

/-- The mask and the match of an operation's row in the opcode table. -/
def tableRow : Instr → TWord × TWord
  | .rdTmrOut => (0x3C0, 0x000)
  | .wrTmrOut _ => (0x3C0, 0x040)
  | .rdTmrTstr => (0x3FF, 0x080)
  | .wrTmrTstr _ => (0x3FF, 0x0C0)
  | .rdTmrTsnc => (0x3FF, 0x081)
  | .wrTmrTsnc _ => (0x3FF, 0x0C1)
  | .rdTmrTmdr => (0x3FF, 0x082)
  | .wrTmrTmdr _ => (0x3FF, 0x0C2)
  | .rdTmrTfcr => (0x3FF, 0x083)
  | .wrTmrTfcr _ => (0x3FF, 0x0C3)
  | .rdTmrTcr0 => (0x3FF, 0x084)
  | .wrTmrTcr0 _ => (0x3FF, 0x0C4)
  | .rdTmrTior0 => (0x3FF, 0x085)
  | .wrTmrTior0 _ => (0x3FF, 0x0C5)
  | .rdTmrTier0 => (0x3FF, 0x086)
  | .wrTmrTier0 _ => (0x3FF, 0x0C6)
  | .rdTmrTsr0 => (0x3FF, 0x087)
  | .wrTmrTsr0 _ => (0x3FF, 0x0C7)
  | .rdTmrTcnt0H => (0x3FF, 0x088)
  | .wrTmrTcnt0H _ => (0x3FF, 0x0C8)
  | .rdTmrTcnt0L => (0x3FF, 0x089)
  | .wrTmrTcnt0L _ => (0x3FF, 0x0C9)
  | .rdTmrGra0H => (0x3FF, 0x08A)
  | .wrTmrGra0H _ => (0x3FF, 0x0CA)
  | .rdTmrGra0L => (0x3FF, 0x08B)
  | .wrTmrGra0L _ => (0x3FF, 0x0CB)
  | .rdTmrGrb0H => (0x3FF, 0x08C)
  | .wrTmrGrb0H _ => (0x3FF, 0x0CC)
  | .rdTmrGrb0L => (0x3FF, 0x08D)
  | .wrTmrGrb0L _ => (0x3FF, 0x0CD)
  | .rdTmrTcr1 => (0x3FF, 0x08E)
  | .wrTmrTcr1 _ => (0x3FF, 0x0CE)
  | .rdTmrTior1 => (0x3FF, 0x08F)
  | .wrTmrTior1 _ => (0x3FF, 0x0CF)
  | .rdTmrTier1 => (0x3FF, 0x090)
  | .wrTmrTier1 _ => (0x3FF, 0x0D0)
  | .rdTmrTsr1 => (0x3FF, 0x091)
  | .wrTmrTsr1 _ => (0x3FF, 0x0D1)
  | .rdTmrTcnt1H => (0x3FF, 0x092)
  | .wrTmrTcnt1H _ => (0x3FF, 0x0D2)
  | .rdTmrTcnt1L => (0x3FF, 0x093)
  | .wrTmrTcnt1L _ => (0x3FF, 0x0D3)
  | .rdTmrGra1H => (0x3FF, 0x094)
  | .wrTmrGra1H _ => (0x3FF, 0x0D4)
  | .rdTmrGra1L => (0x3FF, 0x095)
  | .wrTmrGra1L _ => (0x3FF, 0x0D5)
  | .rdTmrGrb1H => (0x3FF, 0x096)
  | .wrTmrGrb1H _ => (0x3FF, 0x0D6)
  | .rdTmrGrb1L => (0x3FF, 0x097)
  | .wrTmrGrb1L _ => (0x3FF, 0x0D7)
  | .rdTmrTcr2 => (0x3FF, 0x098)
  | .wrTmrTcr2 _ => (0x3FF, 0x0D8)
  | .rdTmrTior2 => (0x3FF, 0x099)
  | .wrTmrTior2 _ => (0x3FF, 0x0D9)
  | .rdTmrTier2 => (0x3FF, 0x09A)
  | .wrTmrTier2 _ => (0x3FF, 0x0DA)
  | .rdTmrTsr2 => (0x3FF, 0x09B)
  | .wrTmrTsr2 _ => (0x3FF, 0x0DB)
  | .rdTmrTcnt2H => (0x3FF, 0x09C)
  | .wrTmrTcnt2H _ => (0x3FF, 0x0DC)
  | .rdTmrTcnt2L => (0x3FF, 0x09D)
  | .wrTmrTcnt2L _ => (0x3FF, 0x0DD)
  | .rdTmrGra2H => (0x3FF, 0x09E)
  | .wrTmrGra2H _ => (0x3FF, 0x0DE)
  | .rdTmrGra2L => (0x3FF, 0x09F)
  | .wrTmrGra2L _ => (0x3FF, 0x0DF)
  | .rdTmrGrb2H => (0x3FF, 0x0A0)
  | .wrTmrGrb2H _ => (0x3FF, 0x0E0)
  | .rdTmrGrb2L => (0x3FF, 0x0A1)
  | .wrTmrGrb2L _ => (0x3FF, 0x0E1)
  | .rdTmrTcr3 => (0x3FF, 0x0A2)
  | .wrTmrTcr3 _ => (0x3FF, 0x0E2)
  | .rdTmrTior3 => (0x3FF, 0x0A3)
  | .wrTmrTior3 _ => (0x3FF, 0x0E3)
  | .rdTmrTier3 => (0x3FF, 0x0A4)
  | .wrTmrTier3 _ => (0x3FF, 0x0E4)
  | .rdTmrTsr3 => (0x3FF, 0x0A5)
  | .wrTmrTsr3 _ => (0x3FF, 0x0E5)
  | .rdTmrTcnt3H => (0x3FF, 0x0A6)
  | .wrTmrTcnt3H _ => (0x3FF, 0x0E6)
  | .rdTmrTcnt3L => (0x3FF, 0x0A7)
  | .wrTmrTcnt3L _ => (0x3FF, 0x0E7)
  | .rdTmrGra3H => (0x3FF, 0x0A8)
  | .wrTmrGra3H _ => (0x3FF, 0x0E8)
  | .rdTmrGra3L => (0x3FF, 0x0A9)
  | .wrTmrGra3L _ => (0x3FF, 0x0E9)
  | .rdTmrGrb3H => (0x3FF, 0x0AA)
  | .wrTmrGrb3H _ => (0x3FF, 0x0EA)
  | .rdTmrGrb3L => (0x3FF, 0x0AB)
  | .wrTmrGrb3L _ => (0x3FF, 0x0EB)
  | .rdTmrTcr4 => (0x3FF, 0x0B2)
  | .wrTmrTcr4 _ => (0x3FF, 0x0F2)
  | .rdTmrTior4 => (0x3FF, 0x0B3)
  | .wrTmrTior4 _ => (0x3FF, 0x0F3)
  | .rdTmrTier4 => (0x3FF, 0x0B4)
  | .wrTmrTier4 _ => (0x3FF, 0x0F4)
  | .rdTmrTsr4 => (0x3FF, 0x0B5)
  | .wrTmrTsr4 _ => (0x3FF, 0x0F5)
  | .rdTmrTcnt4H => (0x3FF, 0x0B6)
  | .wrTmrTcnt4H _ => (0x3FF, 0x0F6)
  | .rdTmrTcnt4L => (0x3FF, 0x0B7)
  | .wrTmrTcnt4L _ => (0x3FF, 0x0F7)
  | .rdTmrGra4H => (0x3FF, 0x0B8)
  | .wrTmrGra4H _ => (0x3FF, 0x0F8)
  | .rdTmrGra4L => (0x3FF, 0x0B9)
  | .wrTmrGra4L _ => (0x3FF, 0x0F9)
  | .rdTmrGrb4H => (0x3FF, 0x0BA)
  | .wrTmrGrb4H _ => (0x3FF, 0x0FA)
  | .rdTmrGrb4L => (0x3FF, 0x0BB)
  | .wrTmrGrb4L _ => (0x3FF, 0x0FB)
  | .rdTmrScratch2C _ => (0x3FC, 0x0AC)
  | .wrTmrScratch2C _ _ => (0x3FC, 0x0EC)
  | .rdTmrScratch30 _ => (0x3FE, 0x0B0)
  | .wrTmrScratch30 _ _ => (0x3FE, 0x0F0)
  | .rdTmrScratch3C _ => (0x3FC, 0x0BC)
  | .wrTmrScratch3C _ _ => (0x3FC, 0x0FC)
  | .rdSciScr _ => (0x3C7, 0x182)
  | .wrSciScr _ _ => (0x3C7, 0x1C2)
  | .rdSciTdr _ => (0x3C7, 0x183)
  | .wrSciTdr _ _ => (0x3C7, 0x1C3)
  | .rdSciSsr _ => (0x3C7, 0x184)
  | .wrSciSsr _ _ => (0x3C7, 0x1C4)
  | .rdSciRdr _ => (0x3C7, 0x185)
  | .wrSciRdr _ _ => (0x3C7, 0x1C5)
  | .rdSciRaw01 _ _ => (0x3C6, 0x180)
  | .wrSciRaw01 _ _ _ => (0x3C6, 0x1C0)
  | .rdSciRaw67 _ _ => (0x3C6, 0x186)
  | .wrSciRaw67 _ _ _ => (0x3C6, 0x1C6)
  | .tickTmr _ => (0x3FF, 0x200)
  | .tickSci _ _ => (0x3C7, 0x201)
  | .sendSci _ _ => (0x3C7, 0x202)
  | .pendSci _ => (0x3C7, 0x203)

/-- The word of the operation lies in its row. -/
def WordInRow.Statement (i : Instr) : Prop := i.word &&& (tableRow i).1 = (tableRow i).2

theorem WordInRow.rdTmrOut : WordInRow.Statement (.rdTmrOut) := (by decide : (0x000 : TWord) &&& 0x3C0 = 0x000)

theorem WordInRow.wrTmrOut (d : Byte) : WordInRow.Statement (.wrTmrOut d) := (by decide : (0x040 : TWord) &&& 0x3C0 = 0x040)

theorem WordInRow.rdTmrTstr : WordInRow.Statement (.rdTmrTstr) := (by decide : (0x080 : TWord) &&& 0x3FF = 0x080)

theorem WordInRow.wrTmrTstr (d : Byte) : WordInRow.Statement (.wrTmrTstr d) := (by decide : (0x0C0 : TWord) &&& 0x3FF = 0x0C0)

theorem WordInRow.rdTmrTsnc : WordInRow.Statement (.rdTmrTsnc) := (by decide : (0x081 : TWord) &&& 0x3FF = 0x081)

theorem WordInRow.wrTmrTsnc (d : Byte) : WordInRow.Statement (.wrTmrTsnc d) := (by decide : (0x0C1 : TWord) &&& 0x3FF = 0x0C1)

theorem WordInRow.rdTmrTmdr : WordInRow.Statement (.rdTmrTmdr) := (by decide : (0x082 : TWord) &&& 0x3FF = 0x082)

theorem WordInRow.wrTmrTmdr (d : Byte) : WordInRow.Statement (.wrTmrTmdr d) := (by decide : (0x0C2 : TWord) &&& 0x3FF = 0x0C2)

theorem WordInRow.rdTmrTfcr : WordInRow.Statement (.rdTmrTfcr) := (by decide : (0x083 : TWord) &&& 0x3FF = 0x083)

theorem WordInRow.wrTmrTfcr (d : Byte) : WordInRow.Statement (.wrTmrTfcr d) := (by decide : (0x0C3 : TWord) &&& 0x3FF = 0x0C3)

theorem WordInRow.rdTmrTcr0 : WordInRow.Statement (.rdTmrTcr0) := (by decide : (0x084 : TWord) &&& 0x3FF = 0x084)

theorem WordInRow.wrTmrTcr0 (d : Byte) : WordInRow.Statement (.wrTmrTcr0 d) := (by decide : (0x0C4 : TWord) &&& 0x3FF = 0x0C4)

theorem WordInRow.rdTmrTior0 : WordInRow.Statement (.rdTmrTior0) := (by decide : (0x085 : TWord) &&& 0x3FF = 0x085)

theorem WordInRow.wrTmrTior0 (d : Byte) : WordInRow.Statement (.wrTmrTior0 d) := (by decide : (0x0C5 : TWord) &&& 0x3FF = 0x0C5)

theorem WordInRow.rdTmrTier0 : WordInRow.Statement (.rdTmrTier0) := (by decide : (0x086 : TWord) &&& 0x3FF = 0x086)

theorem WordInRow.wrTmrTier0 (d : Byte) : WordInRow.Statement (.wrTmrTier0 d) := (by decide : (0x0C6 : TWord) &&& 0x3FF = 0x0C6)

theorem WordInRow.rdTmrTsr0 : WordInRow.Statement (.rdTmrTsr0) := (by decide : (0x087 : TWord) &&& 0x3FF = 0x087)

theorem WordInRow.wrTmrTsr0 (d : Byte) : WordInRow.Statement (.wrTmrTsr0 d) := (by decide : (0x0C7 : TWord) &&& 0x3FF = 0x0C7)

theorem WordInRow.rdTmrTcnt0H : WordInRow.Statement (.rdTmrTcnt0H) := (by decide : (0x088 : TWord) &&& 0x3FF = 0x088)

theorem WordInRow.wrTmrTcnt0H (d : Byte) : WordInRow.Statement (.wrTmrTcnt0H d) := (by decide : (0x0C8 : TWord) &&& 0x3FF = 0x0C8)

theorem WordInRow.rdTmrTcnt0L : WordInRow.Statement (.rdTmrTcnt0L) := (by decide : (0x089 : TWord) &&& 0x3FF = 0x089)

theorem WordInRow.wrTmrTcnt0L (d : Byte) : WordInRow.Statement (.wrTmrTcnt0L d) := (by decide : (0x0C9 : TWord) &&& 0x3FF = 0x0C9)

theorem WordInRow.rdTmrGra0H : WordInRow.Statement (.rdTmrGra0H) := (by decide : (0x08A : TWord) &&& 0x3FF = 0x08A)

theorem WordInRow.wrTmrGra0H (d : Byte) : WordInRow.Statement (.wrTmrGra0H d) := (by decide : (0x0CA : TWord) &&& 0x3FF = 0x0CA)

theorem WordInRow.rdTmrGra0L : WordInRow.Statement (.rdTmrGra0L) := (by decide : (0x08B : TWord) &&& 0x3FF = 0x08B)

theorem WordInRow.wrTmrGra0L (d : Byte) : WordInRow.Statement (.wrTmrGra0L d) := (by decide : (0x0CB : TWord) &&& 0x3FF = 0x0CB)

theorem WordInRow.rdTmrGrb0H : WordInRow.Statement (.rdTmrGrb0H) := (by decide : (0x08C : TWord) &&& 0x3FF = 0x08C)

theorem WordInRow.wrTmrGrb0H (d : Byte) : WordInRow.Statement (.wrTmrGrb0H d) := (by decide : (0x0CC : TWord) &&& 0x3FF = 0x0CC)

theorem WordInRow.rdTmrGrb0L : WordInRow.Statement (.rdTmrGrb0L) := (by decide : (0x08D : TWord) &&& 0x3FF = 0x08D)

theorem WordInRow.wrTmrGrb0L (d : Byte) : WordInRow.Statement (.wrTmrGrb0L d) := (by decide : (0x0CD : TWord) &&& 0x3FF = 0x0CD)

theorem WordInRow.rdTmrTcr1 : WordInRow.Statement (.rdTmrTcr1) := (by decide : (0x08E : TWord) &&& 0x3FF = 0x08E)

theorem WordInRow.wrTmrTcr1 (d : Byte) : WordInRow.Statement (.wrTmrTcr1 d) := (by decide : (0x0CE : TWord) &&& 0x3FF = 0x0CE)

theorem WordInRow.rdTmrTior1 : WordInRow.Statement (.rdTmrTior1) := (by decide : (0x08F : TWord) &&& 0x3FF = 0x08F)

theorem WordInRow.wrTmrTior1 (d : Byte) : WordInRow.Statement (.wrTmrTior1 d) := (by decide : (0x0CF : TWord) &&& 0x3FF = 0x0CF)

theorem WordInRow.rdTmrTier1 : WordInRow.Statement (.rdTmrTier1) := (by decide : (0x090 : TWord) &&& 0x3FF = 0x090)

theorem WordInRow.wrTmrTier1 (d : Byte) : WordInRow.Statement (.wrTmrTier1 d) := (by decide : (0x0D0 : TWord) &&& 0x3FF = 0x0D0)

theorem WordInRow.rdTmrTsr1 : WordInRow.Statement (.rdTmrTsr1) := (by decide : (0x091 : TWord) &&& 0x3FF = 0x091)

theorem WordInRow.wrTmrTsr1 (d : Byte) : WordInRow.Statement (.wrTmrTsr1 d) := (by decide : (0x0D1 : TWord) &&& 0x3FF = 0x0D1)

theorem WordInRow.rdTmrTcnt1H : WordInRow.Statement (.rdTmrTcnt1H) := (by decide : (0x092 : TWord) &&& 0x3FF = 0x092)

theorem WordInRow.wrTmrTcnt1H (d : Byte) : WordInRow.Statement (.wrTmrTcnt1H d) := (by decide : (0x0D2 : TWord) &&& 0x3FF = 0x0D2)

theorem WordInRow.rdTmrTcnt1L : WordInRow.Statement (.rdTmrTcnt1L) := (by decide : (0x093 : TWord) &&& 0x3FF = 0x093)

theorem WordInRow.wrTmrTcnt1L (d : Byte) : WordInRow.Statement (.wrTmrTcnt1L d) := (by decide : (0x0D3 : TWord) &&& 0x3FF = 0x0D3)

theorem WordInRow.rdTmrGra1H : WordInRow.Statement (.rdTmrGra1H) := (by decide : (0x094 : TWord) &&& 0x3FF = 0x094)

theorem WordInRow.wrTmrGra1H (d : Byte) : WordInRow.Statement (.wrTmrGra1H d) := (by decide : (0x0D4 : TWord) &&& 0x3FF = 0x0D4)

theorem WordInRow.rdTmrGra1L : WordInRow.Statement (.rdTmrGra1L) := (by decide : (0x095 : TWord) &&& 0x3FF = 0x095)

theorem WordInRow.wrTmrGra1L (d : Byte) : WordInRow.Statement (.wrTmrGra1L d) := (by decide : (0x0D5 : TWord) &&& 0x3FF = 0x0D5)

theorem WordInRow.rdTmrGrb1H : WordInRow.Statement (.rdTmrGrb1H) := (by decide : (0x096 : TWord) &&& 0x3FF = 0x096)

theorem WordInRow.wrTmrGrb1H (d : Byte) : WordInRow.Statement (.wrTmrGrb1H d) := (by decide : (0x0D6 : TWord) &&& 0x3FF = 0x0D6)

theorem WordInRow.rdTmrGrb1L : WordInRow.Statement (.rdTmrGrb1L) := (by decide : (0x097 : TWord) &&& 0x3FF = 0x097)

theorem WordInRow.wrTmrGrb1L (d : Byte) : WordInRow.Statement (.wrTmrGrb1L d) := (by decide : (0x0D7 : TWord) &&& 0x3FF = 0x0D7)

theorem WordInRow.rdTmrTcr2 : WordInRow.Statement (.rdTmrTcr2) := (by decide : (0x098 : TWord) &&& 0x3FF = 0x098)

theorem WordInRow.wrTmrTcr2 (d : Byte) : WordInRow.Statement (.wrTmrTcr2 d) := (by decide : (0x0D8 : TWord) &&& 0x3FF = 0x0D8)

theorem WordInRow.rdTmrTior2 : WordInRow.Statement (.rdTmrTior2) := (by decide : (0x099 : TWord) &&& 0x3FF = 0x099)

theorem WordInRow.wrTmrTior2 (d : Byte) : WordInRow.Statement (.wrTmrTior2 d) := (by decide : (0x0D9 : TWord) &&& 0x3FF = 0x0D9)

theorem WordInRow.rdTmrTier2 : WordInRow.Statement (.rdTmrTier2) := (by decide : (0x09A : TWord) &&& 0x3FF = 0x09A)

theorem WordInRow.wrTmrTier2 (d : Byte) : WordInRow.Statement (.wrTmrTier2 d) := (by decide : (0x0DA : TWord) &&& 0x3FF = 0x0DA)

theorem WordInRow.rdTmrTsr2 : WordInRow.Statement (.rdTmrTsr2) := (by decide : (0x09B : TWord) &&& 0x3FF = 0x09B)

theorem WordInRow.wrTmrTsr2 (d : Byte) : WordInRow.Statement (.wrTmrTsr2 d) := (by decide : (0x0DB : TWord) &&& 0x3FF = 0x0DB)

theorem WordInRow.rdTmrTcnt2H : WordInRow.Statement (.rdTmrTcnt2H) := (by decide : (0x09C : TWord) &&& 0x3FF = 0x09C)

theorem WordInRow.wrTmrTcnt2H (d : Byte) : WordInRow.Statement (.wrTmrTcnt2H d) := (by decide : (0x0DC : TWord) &&& 0x3FF = 0x0DC)

theorem WordInRow.rdTmrTcnt2L : WordInRow.Statement (.rdTmrTcnt2L) := (by decide : (0x09D : TWord) &&& 0x3FF = 0x09D)

theorem WordInRow.wrTmrTcnt2L (d : Byte) : WordInRow.Statement (.wrTmrTcnt2L d) := (by decide : (0x0DD : TWord) &&& 0x3FF = 0x0DD)

theorem WordInRow.rdTmrGra2H : WordInRow.Statement (.rdTmrGra2H) := (by decide : (0x09E : TWord) &&& 0x3FF = 0x09E)

theorem WordInRow.wrTmrGra2H (d : Byte) : WordInRow.Statement (.wrTmrGra2H d) := (by decide : (0x0DE : TWord) &&& 0x3FF = 0x0DE)

theorem WordInRow.rdTmrGra2L : WordInRow.Statement (.rdTmrGra2L) := (by decide : (0x09F : TWord) &&& 0x3FF = 0x09F)

theorem WordInRow.wrTmrGra2L (d : Byte) : WordInRow.Statement (.wrTmrGra2L d) := (by decide : (0x0DF : TWord) &&& 0x3FF = 0x0DF)

theorem WordInRow.rdTmrGrb2H : WordInRow.Statement (.rdTmrGrb2H) := (by decide : (0x0A0 : TWord) &&& 0x3FF = 0x0A0)

theorem WordInRow.wrTmrGrb2H (d : Byte) : WordInRow.Statement (.wrTmrGrb2H d) := (by decide : (0x0E0 : TWord) &&& 0x3FF = 0x0E0)

theorem WordInRow.rdTmrGrb2L : WordInRow.Statement (.rdTmrGrb2L) := (by decide : (0x0A1 : TWord) &&& 0x3FF = 0x0A1)

theorem WordInRow.wrTmrGrb2L (d : Byte) : WordInRow.Statement (.wrTmrGrb2L d) := (by decide : (0x0E1 : TWord) &&& 0x3FF = 0x0E1)

theorem WordInRow.rdTmrTcr3 : WordInRow.Statement (.rdTmrTcr3) := (by decide : (0x0A2 : TWord) &&& 0x3FF = 0x0A2)

theorem WordInRow.wrTmrTcr3 (d : Byte) : WordInRow.Statement (.wrTmrTcr3 d) := (by decide : (0x0E2 : TWord) &&& 0x3FF = 0x0E2)

theorem WordInRow.rdTmrTior3 : WordInRow.Statement (.rdTmrTior3) := (by decide : (0x0A3 : TWord) &&& 0x3FF = 0x0A3)

theorem WordInRow.wrTmrTior3 (d : Byte) : WordInRow.Statement (.wrTmrTior3 d) := (by decide : (0x0E3 : TWord) &&& 0x3FF = 0x0E3)

theorem WordInRow.rdTmrTier3 : WordInRow.Statement (.rdTmrTier3) := (by decide : (0x0A4 : TWord) &&& 0x3FF = 0x0A4)

theorem WordInRow.wrTmrTier3 (d : Byte) : WordInRow.Statement (.wrTmrTier3 d) := (by decide : (0x0E4 : TWord) &&& 0x3FF = 0x0E4)

theorem WordInRow.rdTmrTsr3 : WordInRow.Statement (.rdTmrTsr3) := (by decide : (0x0A5 : TWord) &&& 0x3FF = 0x0A5)

theorem WordInRow.wrTmrTsr3 (d : Byte) : WordInRow.Statement (.wrTmrTsr3 d) := (by decide : (0x0E5 : TWord) &&& 0x3FF = 0x0E5)

theorem WordInRow.rdTmrTcnt3H : WordInRow.Statement (.rdTmrTcnt3H) := (by decide : (0x0A6 : TWord) &&& 0x3FF = 0x0A6)

theorem WordInRow.wrTmrTcnt3H (d : Byte) : WordInRow.Statement (.wrTmrTcnt3H d) := (by decide : (0x0E6 : TWord) &&& 0x3FF = 0x0E6)

theorem WordInRow.rdTmrTcnt3L : WordInRow.Statement (.rdTmrTcnt3L) := (by decide : (0x0A7 : TWord) &&& 0x3FF = 0x0A7)

theorem WordInRow.wrTmrTcnt3L (d : Byte) : WordInRow.Statement (.wrTmrTcnt3L d) := (by decide : (0x0E7 : TWord) &&& 0x3FF = 0x0E7)

theorem WordInRow.rdTmrGra3H : WordInRow.Statement (.rdTmrGra3H) := (by decide : (0x0A8 : TWord) &&& 0x3FF = 0x0A8)

theorem WordInRow.wrTmrGra3H (d : Byte) : WordInRow.Statement (.wrTmrGra3H d) := (by decide : (0x0E8 : TWord) &&& 0x3FF = 0x0E8)

theorem WordInRow.rdTmrGra3L : WordInRow.Statement (.rdTmrGra3L) := (by decide : (0x0A9 : TWord) &&& 0x3FF = 0x0A9)

theorem WordInRow.wrTmrGra3L (d : Byte) : WordInRow.Statement (.wrTmrGra3L d) := (by decide : (0x0E9 : TWord) &&& 0x3FF = 0x0E9)

theorem WordInRow.rdTmrGrb3H : WordInRow.Statement (.rdTmrGrb3H) := (by decide : (0x0AA : TWord) &&& 0x3FF = 0x0AA)

theorem WordInRow.wrTmrGrb3H (d : Byte) : WordInRow.Statement (.wrTmrGrb3H d) := (by decide : (0x0EA : TWord) &&& 0x3FF = 0x0EA)

theorem WordInRow.rdTmrGrb3L : WordInRow.Statement (.rdTmrGrb3L) := (by decide : (0x0AB : TWord) &&& 0x3FF = 0x0AB)

theorem WordInRow.wrTmrGrb3L (d : Byte) : WordInRow.Statement (.wrTmrGrb3L d) := (by decide : (0x0EB : TWord) &&& 0x3FF = 0x0EB)

theorem WordInRow.rdTmrTcr4 : WordInRow.Statement (.rdTmrTcr4) := (by decide : (0x0B2 : TWord) &&& 0x3FF = 0x0B2)

theorem WordInRow.wrTmrTcr4 (d : Byte) : WordInRow.Statement (.wrTmrTcr4 d) := (by decide : (0x0F2 : TWord) &&& 0x3FF = 0x0F2)

theorem WordInRow.rdTmrTior4 : WordInRow.Statement (.rdTmrTior4) := (by decide : (0x0B3 : TWord) &&& 0x3FF = 0x0B3)

theorem WordInRow.wrTmrTior4 (d : Byte) : WordInRow.Statement (.wrTmrTior4 d) := (by decide : (0x0F3 : TWord) &&& 0x3FF = 0x0F3)

theorem WordInRow.rdTmrTier4 : WordInRow.Statement (.rdTmrTier4) := (by decide : (0x0B4 : TWord) &&& 0x3FF = 0x0B4)

theorem WordInRow.wrTmrTier4 (d : Byte) : WordInRow.Statement (.wrTmrTier4 d) := (by decide : (0x0F4 : TWord) &&& 0x3FF = 0x0F4)

theorem WordInRow.rdTmrTsr4 : WordInRow.Statement (.rdTmrTsr4) := (by decide : (0x0B5 : TWord) &&& 0x3FF = 0x0B5)

theorem WordInRow.wrTmrTsr4 (d : Byte) : WordInRow.Statement (.wrTmrTsr4 d) := (by decide : (0x0F5 : TWord) &&& 0x3FF = 0x0F5)

theorem WordInRow.rdTmrTcnt4H : WordInRow.Statement (.rdTmrTcnt4H) := (by decide : (0x0B6 : TWord) &&& 0x3FF = 0x0B6)

theorem WordInRow.wrTmrTcnt4H (d : Byte) : WordInRow.Statement (.wrTmrTcnt4H d) := (by decide : (0x0F6 : TWord) &&& 0x3FF = 0x0F6)

theorem WordInRow.rdTmrTcnt4L : WordInRow.Statement (.rdTmrTcnt4L) := (by decide : (0x0B7 : TWord) &&& 0x3FF = 0x0B7)

theorem WordInRow.wrTmrTcnt4L (d : Byte) : WordInRow.Statement (.wrTmrTcnt4L d) := (by decide : (0x0F7 : TWord) &&& 0x3FF = 0x0F7)

theorem WordInRow.rdTmrGra4H : WordInRow.Statement (.rdTmrGra4H) := (by decide : (0x0B8 : TWord) &&& 0x3FF = 0x0B8)

theorem WordInRow.wrTmrGra4H (d : Byte) : WordInRow.Statement (.wrTmrGra4H d) := (by decide : (0x0F8 : TWord) &&& 0x3FF = 0x0F8)

theorem WordInRow.rdTmrGra4L : WordInRow.Statement (.rdTmrGra4L) := (by decide : (0x0B9 : TWord) &&& 0x3FF = 0x0B9)

theorem WordInRow.wrTmrGra4L (d : Byte) : WordInRow.Statement (.wrTmrGra4L d) := (by decide : (0x0F9 : TWord) &&& 0x3FF = 0x0F9)

theorem WordInRow.rdTmrGrb4H : WordInRow.Statement (.rdTmrGrb4H) := (by decide : (0x0BA : TWord) &&& 0x3FF = 0x0BA)

theorem WordInRow.wrTmrGrb4H (d : Byte) : WordInRow.Statement (.wrTmrGrb4H d) := (by decide : (0x0FA : TWord) &&& 0x3FF = 0x0FA)

theorem WordInRow.rdTmrGrb4L : WordInRow.Statement (.rdTmrGrb4L) := (by decide : (0x0BB : TWord) &&& 0x3FF = 0x0BB)

theorem WordInRow.wrTmrGrb4L (d : Byte) : WordInRow.Statement (.wrTmrGrb4L d) := (by decide : (0x0FB : TWord) &&& 0x3FF = 0x0FB)

theorem WordInRow.rdTmrScratch2C (j : Fin 4) : WordInRow.Statement (.rdTmrScratch2C j) := by
  revert j
  simp only [WordInRow.Statement, Instr.word, tableRow]
  decide

theorem WordInRow.wrTmrScratch2C (j : Fin 4) (d : Byte) : WordInRow.Statement (.wrTmrScratch2C j d) := by
  revert j
  simp only [WordInRow.Statement, Instr.word, tableRow]
  decide

theorem WordInRow.rdTmrScratch30 (j : Fin 2) : WordInRow.Statement (.rdTmrScratch30 j) := by
  revert j
  simp only [WordInRow.Statement, Instr.word, tableRow]
  decide

theorem WordInRow.wrTmrScratch30 (j : Fin 2) (d : Byte) : WordInRow.Statement (.wrTmrScratch30 j d) := by
  revert j
  simp only [WordInRow.Statement, Instr.word, tableRow]
  decide

theorem WordInRow.rdTmrScratch3C (j : Fin 4) : WordInRow.Statement (.rdTmrScratch3C j) := by
  revert j
  simp only [WordInRow.Statement, Instr.word, tableRow]
  decide

theorem WordInRow.wrTmrScratch3C (j : Fin 4) (d : Byte) : WordInRow.Statement (.wrTmrScratch3C j d) := by
  revert j
  simp only [WordInRow.Statement, Instr.word, tableRow]
  decide

theorem WordInRow.rdSciScr (k : Fin 8) : WordInRow.Statement (.rdSciScr k) := by
  revert k
  simp only [WordInRow.Statement, Instr.word, tableRow]
  decide

theorem WordInRow.wrSciScr (k : Fin 8) (d : Byte) : WordInRow.Statement (.wrSciScr k d) := by
  revert k
  simp only [WordInRow.Statement, Instr.word, tableRow]
  decide

theorem WordInRow.rdSciTdr (k : Fin 8) : WordInRow.Statement (.rdSciTdr k) := by
  revert k
  simp only [WordInRow.Statement, Instr.word, tableRow]
  decide

theorem WordInRow.wrSciTdr (k : Fin 8) (d : Byte) : WordInRow.Statement (.wrSciTdr k d) := by
  revert k
  simp only [WordInRow.Statement, Instr.word, tableRow]
  decide

theorem WordInRow.rdSciSsr (k : Fin 8) : WordInRow.Statement (.rdSciSsr k) := by
  revert k
  simp only [WordInRow.Statement, Instr.word, tableRow]
  decide

theorem WordInRow.wrSciSsr (k : Fin 8) (d : Byte) : WordInRow.Statement (.wrSciSsr k d) := by
  revert k
  simp only [WordInRow.Statement, Instr.word, tableRow]
  decide

theorem WordInRow.rdSciRdr (k : Fin 8) : WordInRow.Statement (.rdSciRdr k) := by
  revert k
  simp only [WordInRow.Statement, Instr.word, tableRow]
  decide

theorem WordInRow.wrSciRdr (k : Fin 8) (d : Byte) : WordInRow.Statement (.wrSciRdr k d) := by
  revert k
  simp only [WordInRow.Statement, Instr.word, tableRow]
  decide

theorem WordInRow.rdSciRaw01 (k : Fin 8) (j : Fin 2) : WordInRow.Statement (.rdSciRaw01 k j) := by
  revert k j
  simp only [WordInRow.Statement, Instr.word, tableRow]
  decide

theorem WordInRow.wrSciRaw01 (k : Fin 8) (j : Fin 2) (d : Byte) : WordInRow.Statement (.wrSciRaw01 k j d) := by
  revert k j
  simp only [WordInRow.Statement, Instr.word, tableRow]
  decide

theorem WordInRow.rdSciRaw67 (k : Fin 8) (j : Fin 2) : WordInRow.Statement (.rdSciRaw67 k j) := by
  revert k j
  simp only [WordInRow.Statement, Instr.word, tableRow]
  decide

theorem WordInRow.wrSciRaw67 (k : Fin 8) (j : Fin 2) (d : Byte) : WordInRow.Statement (.wrSciRaw67 k j d) := by
  revert k j
  simp only [WordInRow.Statement, Instr.word, tableRow]
  decide

theorem WordInRow.tickTmr (c : Nat) : WordInRow.Statement (.tickTmr c) := (by decide : (0x200 : TWord) &&& 0x3FF = 0x200)

theorem WordInRow.tickSci (k : Fin 8) (c : Nat) : WordInRow.Statement (.tickSci k c) := by
  revert k
  simp only [WordInRow.Statement, Instr.word, tableRow]
  decide

theorem WordInRow.sendSci (k : Fin 8) (bs : List Byte) : WordInRow.Statement (.sendSci k bs) := by
  revert k
  simp only [WordInRow.Statement, Instr.word, tableRow]
  decide

theorem WordInRow.pendSci (k : Fin 8) : WordInRow.Statement (.pendSci k) := by
  revert k
  simp only [WordInRow.Statement, Instr.word, tableRow]
  decide

end Sys2Proof.Laws
end

