-- ==== Sys2Proof/Laws/Serial.lean ====
section
/-! SUPPORT. The serial tick in closed form, and what each serial operation leaves of an instance. -/

namespace Sys2Proof.Machine

/-- Everything the transmit countdown can do (R108, R109). -/
theorem countdown_eq (clockTime : Int) (e : Nat) (x : Sci) :
    x.countdown clockTime e =
      ({ x with txTimer :=
          if 0 < x.txTimer ∧ x.txTimer - (e : Int) ≤ 0 then clockTime
          else if 0 < x.txTimer then x.txTimer - (e : Int) else x.txTimer },
       if 0 < x.txTimer ∧ x.txTimer - (e : Int) ≤ 0 ∧ txIntEnable x.control = true then [.irq (54 + x.o)] else []) := by
  unfold Sci.countdown
  by_cases h1 : 0 < x.txTimer
  · by_cases h2 : x.txTimer - (e : Int) ≤ 0
    · simp only [h1, h2, if_true, true_and]
    · simp only [h1, h2, if_true, if_false, true_and, false_and]
  · simp only [h1, if_false, false_and]

/-- Everything receive delivery can do (R110). -/
theorem deliver_eq (x : Sci) :
    x.deliver =
      ({ x with
          rxData := if x.rxq ≠ [] ∧ receiveFull x.status = false then x.rxq.headD x.rxData else x.rxData
          rxq := if x.rxq ≠ [] ∧ receiveFull x.status = false then x.rxq.tail else x.rxq
          status := if x.rxq ≠ [] ∧ receiveFull x.status = false then setReceiveFull x.status else x.status },
       if x.rxq ≠ [] ∧ receiveFull x.status = false then [.irq (53 + x.o)] else []) := by
  obtain ⟨raw, control, tx, status, rx, tt, last, q, o⟩ := x
  unfold Sci.deliver
  cases q with
  | nil => simp
  | cons b rest => cases h : receiveFull status <;> simp

/-- Everything a tick of an instance can do (R106). -/
theorem sciTick_eq (clockTime : Int) (c : Nat) (x : Sci) :
    x.tick clockTime c =
      ({ x with
          txTimer :=
            if 0 < x.txTimer ∧ x.txTimer - ((c - x.last : Nat) : Int) ≤ 0 then clockTime
            else if 0 < x.txTimer then x.txTimer - ((c - x.last : Nat) : Int) else x.txTimer
          rxData := if x.rxq ≠ [] ∧ receiveFull x.status = false then x.rxq.headD x.rxData else x.rxData
          rxq := if x.rxq ≠ [] ∧ receiveFull x.status = false then x.rxq.tail else x.rxq
          status := if x.rxq ≠ [] ∧ receiveFull x.status = false then setReceiveFull x.status else x.status
          last := c },
       (if 0 < x.txTimer ∧ x.txTimer - ((c - x.last : Nat) : Int) ≤ 0 ∧ txIntEnable x.control = true then [.irq (54 + x.o)] else []) ++
       (if x.rxq ≠ [] ∧ receiveFull x.status = false then [.irq (53 + x.o)] else [])) := by
  unfold Sci.tick
  simp only [countdown_eq, deliver_eq]

/-- The interrupt offset of an instance is never written (R32). -/
@[simp] theorem writeReg_o (p : Params) (k : Fin 8) (d : Byte) (x : Sci) (r : SciReg) : (x.writeReg p k d r).1.o = x.o := by
  cases r <;> simp only [Sci.writeReg, Sci.writeScr, Sci.writeTdr]
  split <;> rfl

@[simp] theorem sciTick_o (clockTime : Int) (c : Nat) (x : Sci) : (x.tick clockTime c).1.o = x.o := by rw [sciTick_eq]

@[simp] theorem sciTick_last (clockTime : Int) (c : Nat) (x : Sci) : (x.tick clockTime c).1.last = c := by rw [sciTick_eq]

@[simp] theorem writeReg_last (p : Params) (k : Fin 8) (d : Byte) (x : Sci) (r : SciReg) : (x.writeReg p k d r).1.last = x.last := by
  cases r <;> simp only [Sci.writeReg, Sci.writeScr, Sci.writeTdr]
  split <;> rfl

@[simp] theorem writeReg_rxq (p : Params) (k : Fin 8) (d : Byte) (x : Sci) (r : SciReg) : (x.writeReg p k d r).1.rxq = x.rxq := by
  cases r <;> simp only [Sci.writeReg, Sci.writeScr, Sci.writeTdr]
  split <;> rfl

@[simp] theorem writeReg_rxData (p : Params) (k : Fin 8) (d : Byte) (x : Sci) (r : SciReg) :
    (x.writeReg p k d r).1.rxData = x.rxData := by
  cases r <;> simp only [Sci.writeReg, Sci.writeScr, Sci.writeTdr]
  split <;> rfl

end Sys2Proof.Machine
end

