-- ==== Sys2Proof/Laws/Timer.lean ====
section
/-! SUPPORT. The timer tick: its sub-ticks as an iteration, and the loop over the channels in closed form. -/

namespace Sys2Proof.Machine

/-- `n` sub-ticks are the sub-tick `n` times, and their events in order. -/
theorem subticks_eq (i : Fin 5) (n : Nat) (ch : Channel) :
    Channel.subticks i n ch =
      (Channel.subtick^[n] ch, (List.range n).flatMap fun j => (Channel.subtick^[j] ch).eventsOf i) := by
  induction n generalizing ch with
  | zero => rfl
  | succ n ih =>
    simp only [Channel.subticks, ih, Function.iterate_succ_apply]
    rw [List.range_succ_eq_map]
    simp [List.flatMap_map, Function.iterate_succ_apply]

/-- A sub-tick keeps the configuration of its channel. -/
theorem iterate_subtick_keeps (n : Nat) (ch : Channel) :
    (Channel.subtick^[n] ch).control = ch.control ∧ (Channel.subtick^[n] ch).ie = ch.ie ∧
    (Channel.subtick^[n] ch).compareA = ch.compareA ∧ (Channel.subtick^[n] ch).compareB = ch.compareB := by
  induction n generalizing ch with
  | zero => simp
  | succ n ih => simpa [Function.iterate_succ_apply] using ih ch.subtick

/-- Everything a timer tick can do: the fault below the snapshot, else every channel's sub-ticks, the events in channel order, and the
snapshot. -/
theorem tickTimer_eq (c : Nat) (s : State) :
    tickTimer c s =
      if c < s.timer.snap then .fault .nonMonotonicCycle
      else .next { s with
        timer := { s.timer with
          ch := #v[(s.timer.tickChannel c 0).1, (s.timer.tickChannel c 1).1, (s.timer.tickChannel c 2).1,
                   (s.timer.tickChannel c 3).1, (s.timer.tickChannel c 4).1]
          snap := c }
        trace := s.trace ++ channelOrder.flatMap fun i => (s.timer.tickChannel c i).2
        returned := .none } := by
  unfold tickTimer
  split
  · rfl
  · obtain ⟨p, ⟨st, sy, mo, fc, ch, sc, sn⟩, sci, tr, re, ops⟩ := s
    obtain ⟨⟨l⟩, hl⟩ := ch
    match l, hl with
    | [a, b, d, e, f], _ =>
      simp [channelOrder, tickOne, Timer.tickChannel, Timer.runs, State.emit, State.answer, Vector.set, List.append_assoc]

end Sys2Proof.Machine
end

