-- ==== Sys2Proof/Tests/Slice0.lean ====
section
/-! SUPPORT. Tests. The words are written out from the rows of spec/opcode_table.json (30_encoding.md section 1), the one-step tests are
vectors of 95_test_vectors.md (their ids stand in the names), and each `witness_<Name>` shows a state and operands that meet the
hypotheses of the statement `<Name>`. -/

namespace Sys2Proof.Tests
open Sys2Proof Sys2Proof.Machine

/-! ### Small states -/

/-- The example parameters of 92 D33. -/
def d33 : Params where
  tmrBase := 0x00FFFF60
  sci := [{ base := 0x00FFFFB0, irqOffset := 0 }, { base := 0x00FFFFB8, irqOffset := 4 }]
  clockTime := 200
  sentinel := 0xFF
  cycle0 := 0

/-- The start state of the vectors: reset, with scratch and raw bytes 0x00. -/
def start : State := State.resetWith d33 (Vector.replicate 64 0x00) fun _ => Vector.replicate 8 0x00

/-- The start state with channel `i` changed. -/
def onCh (i : Fin 5) (f : Channel → Channel) (s : State := start) : State := { s with timer := s.timer.onChannel i f }

/-- The state with the channels of `mask` started. -/
def started (mask : Byte) (s : State) : State := { s with timer := { s.timer with start := mask } }

/-- The start state with serial instance `k` changed. -/
def onSci (k : Nat) (f : Sci → Sci) (s : State := start) : State := { s with sci := s.sci.modify k f }

/-- The state whose driver issues the word `w` next. -/
def issuing (w : TWord) (s : State := start) : State := { s with ops := [{ word := w, d := 0x5A, c := 7, bs := [0x41] }] }

/-- The operation answers a next state of which `p` holds. -/
def gives (i : Instr) (s : State) (p : State → Bool) : Bool :=
  match exec i s with
  | .next t => p t
  | _ => false

/-- Every word, with operands of its own beside it, decodes on two instances to the operation beside it. -/
def wordsDecodeTo (l : List (TWord × Instr)) : Bool :=
  l.all fun p => decide (decode 2 { word := p.1, d := 0x5A, c := 7, bs := [0x41] } = .ok p.2)

/-! ### Well-formedness -/

theorem test_wellFormed_refuses_missing_instance : (Instr.pendSci 2).wellFormed 2 = false := by decide

theorem test_wellFormed_accepts_last_instance : (Instr.pendSci 1).wellFormed 2 = true := by decide

/-! ### Decoding: one word per row of the table, instance 1 and group index 1 where the row has them -/

theorem test_words_window : wordsDecodeTo [
    (0b0000000000, .rdTmrOut),
    (0b0001000000, .wrTmrOut 0x5A),
    (0b0010000000, .rdTmrTstr),
    (0b0011000000, .wrTmrTstr 0x5A),
    (0b0010000001, .rdTmrTsnc),
    (0b0011000001, .wrTmrTsnc 0x5A),
    (0b0010000010, .rdTmrTmdr),
    (0b0011000010, .wrTmrTmdr 0x5A),
    (0b0010000011, .rdTmrTfcr),
    (0b0011000011, .wrTmrTfcr 0x5A)] = true := by decide

theorem test_words_channel0 : wordsDecodeTo [
    (0b0010000100, .rdTmrTcr0),
    (0b0011000100, .wrTmrTcr0 0x5A),
    (0b0010000101, .rdTmrTior0),
    (0b0011000101, .wrTmrTior0 0x5A),
    (0b0010000110, .rdTmrTier0),
    (0b0011000110, .wrTmrTier0 0x5A),
    (0b0010000111, .rdTmrTsr0),
    (0b0011000111, .wrTmrTsr0 0x5A),
    (0b0010001000, .rdTmrTcnt0H),
    (0b0011001000, .wrTmrTcnt0H 0x5A),
    (0b0010001001, .rdTmrTcnt0L),
    (0b0011001001, .wrTmrTcnt0L 0x5A),
    (0b0010001010, .rdTmrGra0H),
    (0b0011001010, .wrTmrGra0H 0x5A),
    (0b0010001011, .rdTmrGra0L),
    (0b0011001011, .wrTmrGra0L 0x5A),
    (0b0010001100, .rdTmrGrb0H),
    (0b0011001100, .wrTmrGrb0H 0x5A),
    (0b0010001101, .rdTmrGrb0L),
    (0b0011001101, .wrTmrGrb0L 0x5A)] = true := by decide

theorem test_words_channel1 : wordsDecodeTo [
    (0b0010001110, .rdTmrTcr1),
    (0b0011001110, .wrTmrTcr1 0x5A),
    (0b0010001111, .rdTmrTior1),
    (0b0011001111, .wrTmrTior1 0x5A),
    (0b0010010000, .rdTmrTier1),
    (0b0011010000, .wrTmrTier1 0x5A),
    (0b0010010001, .rdTmrTsr1),
    (0b0011010001, .wrTmrTsr1 0x5A),
    (0b0010010010, .rdTmrTcnt1H),
    (0b0011010010, .wrTmrTcnt1H 0x5A),
    (0b0010010011, .rdTmrTcnt1L),
    (0b0011010011, .wrTmrTcnt1L 0x5A),
    (0b0010010100, .rdTmrGra1H),
    (0b0011010100, .wrTmrGra1H 0x5A),
    (0b0010010101, .rdTmrGra1L),
    (0b0011010101, .wrTmrGra1L 0x5A),
    (0b0010010110, .rdTmrGrb1H),
    (0b0011010110, .wrTmrGrb1H 0x5A),
    (0b0010010111, .rdTmrGrb1L),
    (0b0011010111, .wrTmrGrb1L 0x5A)] = true := by decide

theorem test_words_channel2 : wordsDecodeTo [
    (0b0010011000, .rdTmrTcr2),
    (0b0011011000, .wrTmrTcr2 0x5A),
    (0b0010011001, .rdTmrTior2),
    (0b0011011001, .wrTmrTior2 0x5A),
    (0b0010011010, .rdTmrTier2),
    (0b0011011010, .wrTmrTier2 0x5A),
    (0b0010011011, .rdTmrTsr2),
    (0b0011011011, .wrTmrTsr2 0x5A),
    (0b0010011100, .rdTmrTcnt2H),
    (0b0011011100, .wrTmrTcnt2H 0x5A),
    (0b0010011101, .rdTmrTcnt2L),
    (0b0011011101, .wrTmrTcnt2L 0x5A),
    (0b0010011110, .rdTmrGra2H),
    (0b0011011110, .wrTmrGra2H 0x5A),
    (0b0010011111, .rdTmrGra2L),
    (0b0011011111, .wrTmrGra2L 0x5A),
    (0b0010100000, .rdTmrGrb2H),
    (0b0011100000, .wrTmrGrb2H 0x5A),
    (0b0010100001, .rdTmrGrb2L),
    (0b0011100001, .wrTmrGrb2L 0x5A)] = true := by decide

theorem test_words_channel3 : wordsDecodeTo [
    (0b0010100010, .rdTmrTcr3),
    (0b0011100010, .wrTmrTcr3 0x5A),
    (0b0010100011, .rdTmrTior3),
    (0b0011100011, .wrTmrTior3 0x5A),
    (0b0010100100, .rdTmrTier3),
    (0b0011100100, .wrTmrTier3 0x5A),
    (0b0010100101, .rdTmrTsr3),
    (0b0011100101, .wrTmrTsr3 0x5A),
    (0b0010100110, .rdTmrTcnt3H),
    (0b0011100110, .wrTmrTcnt3H 0x5A),
    (0b0010100111, .rdTmrTcnt3L),
    (0b0011100111, .wrTmrTcnt3L 0x5A),
    (0b0010101000, .rdTmrGra3H),
    (0b0011101000, .wrTmrGra3H 0x5A),
    (0b0010101001, .rdTmrGra3L),
    (0b0011101001, .wrTmrGra3L 0x5A),
    (0b0010101010, .rdTmrGrb3H),
    (0b0011101010, .wrTmrGrb3H 0x5A),
    (0b0010101011, .rdTmrGrb3L),
    (0b0011101011, .wrTmrGrb3L 0x5A)] = true := by decide

theorem test_words_channel4 : wordsDecodeTo [
    (0b0010110010, .rdTmrTcr4),
    (0b0011110010, .wrTmrTcr4 0x5A),
    (0b0010110011, .rdTmrTior4),
    (0b0011110011, .wrTmrTior4 0x5A),
    (0b0010110100, .rdTmrTier4),
    (0b0011110100, .wrTmrTier4 0x5A),
    (0b0010110101, .rdTmrTsr4),
    (0b0011110101, .wrTmrTsr4 0x5A),
    (0b0010110110, .rdTmrTcnt4H),
    (0b0011110110, .wrTmrTcnt4H 0x5A),
    (0b0010110111, .rdTmrTcnt4L),
    (0b0011110111, .wrTmrTcnt4L 0x5A),
    (0b0010111000, .rdTmrGra4H),
    (0b0011111000, .wrTmrGra4H 0x5A),
    (0b0010111001, .rdTmrGra4L),
    (0b0011111001, .wrTmrGra4L 0x5A),
    (0b0010111010, .rdTmrGrb4H),
    (0b0011111010, .wrTmrGrb4H 0x5A),
    (0b0010111011, .rdTmrGrb4L),
    (0b0011111011, .wrTmrGrb4L 0x5A)] = true := by decide

theorem test_words_scratch : wordsDecodeTo [
    (0b0010101101, .rdTmrScratch2C 1),
    (0b0011101101, .wrTmrScratch2C 1 0x5A),
    (0b0010110001, .rdTmrScratch30 1),
    (0b0011110001, .wrTmrScratch30 1 0x5A),
    (0b0010111101, .rdTmrScratch3C 1),
    (0b0011111101, .wrTmrScratch3C 1 0x5A)] = true := by decide

theorem test_words_serial : wordsDecodeTo [
    (0b0110001010, .rdSciScr 1),
    (0b0111001010, .wrSciScr 1 0x5A),
    (0b0110001011, .rdSciTdr 1),
    (0b0111001011, .wrSciTdr 1 0x5A),
    (0b0110001100, .rdSciSsr 1),
    (0b0111001100, .wrSciSsr 1 0x5A),
    (0b0110001101, .rdSciRdr 1),
    (0b0111001101, .wrSciRdr 1 0x5A),
    (0b0110001001, .rdSciRaw01 1 1),
    (0b0111001001, .wrSciRaw01 1 1 0x5A),
    (0b0110001111, .rdSciRaw67 1 1),
    (0b0111001111, .wrSciRaw67 1 1 0x5A)] = true := by decide

theorem test_words_host : wordsDecodeTo [
    (0b1000000000, .tickTmr 7),
    (0b1000001001, .tickSci 1 7),
    (0b1000001010, .sendSci 1 [0x41]),
    (0b1000001011, .pendSci 1)] = true := by decide

/-- E12 to E17: the reserved words. -/
theorem test_words_reserved : ([0b0100000000, 0b0111010010, 0b1000001000, 0b1000000100, 0b1001000001, 0b1100000000] : List TWord).all
    (fun w => match decode 2 { word := w, d := 0x5A, c := 7, bs := [0x41] } with | .error _ => true | .ok _ => false) = true := by
  decide

theorem test_decodeTableWord : decodeTableWord 16 0x0080 = some .rdTmrTstr ∧ decodeTableWord 16 0x023B = some (.pendSci 7) ∧
    decodeTableWord 16 0x0300 = none := by decide

theorem test_step_runs_fetched_word : (match step (State.reset.withFetchWord 16 0x00C6) with
    | .next t => decide ((t.timer.ch[0]).ie = 0x00 ∧ t.ops = [] ∧ t.returned = .none)
    | _ => false) = true := by decide

theorem test_step_refuses_reserved_word : (match step (issuing 0x1D2) with | .refused _ => true | _ => false) = true := by decide

/-! ### Reset -/

theorem test_reset_registers : State.reset.timer.start = 0x00 ∧ State.reset.timer.snap = 0 ∧
    (State.reset.timer.ch[4]).compareA = 0xFFFF ∧ State.reset.sci.length = 8 ∧ (State.reset.sci.map Sci.status).all (· == 0x80) = true ∧
    State.reset.trace = [] := by decide

/-! ### One operation -/

theorem test_T7_match_then_wrap :
    gives (.tickTmr 101) (started 0x01 (onCh 0 (fun c => { c with counter := 0xFFFF, ie := 0x07 })
        { start with timer := { start.timer with snap := 100 } }))
      (fun t => (t.timer.ch[0]).counter == 0 && (t.timer.ch[0]).status == 0x03 && t.timer.snap == 101 &&
        t.trace == [.irq 24, .irq 25]) = true := by decide

theorem test_T15_channel_order :
    gives (.tickTmr 2) (started 0x03 (onCh 0 (fun c => { c with compareA := 1, ie := 0x01 })
        (onCh 1 fun c => { c with compareB := 0, ie := 0x02 })))
      (fun t => (t.timer.ch[0]).status == 0x01 && (t.timer.ch[1]).status == 0x02 && (t.timer.ch[1]).counter == 2 &&
        t.trace == [.irq 24, .irq 29]) = true := by decide

theorem test_B1_read_outside : gives .rdTmrOut start (fun t => t == { start with returned := .byte 0x00 }) = true := by decide

theorem test_B2_write_outside : gives (.wrTmrOut 0x12) start (fun t => t == start) = true := by decide

theorem test_B3_tior_write_ignored : gives (.wrTmrTior0 0x5A) start (fun t => t == start) = true := by decide

theorem test_B3_tior_reads_zero : gives .rdTmrTior0 start (fun t => t.returned == .byte 0x00) = true := by decide

theorem test_B4_tstr_stores_all_bits : gives (.wrTmrTstr 0xFF) start (fun t => t.timer.start == 0xFF) = true := by decide

theorem test_B5_high_half_write : gives (.wrTmrGra0H 0x12) start (fun t => (t.timer.ch[0]).compareA == 0x12FF) = true := by decide

theorem test_B6_low_half_write : gives (.wrTmrGrb3L 0x00) start (fun t => (t.timer.ch[3]).compareB == 0xFF00) = true := by decide

theorem test_B7_scratch_write : gives (.wrTmrScratch2C 0 0xAB) start
    (fun t => t.timer.scratch[0x2C] == 0xAB && t.timer.ch == start.timer.ch) = true := by decide

theorem test_B9_counter_high_read : gives .rdTmrTcnt0H (onCh 0 fun c => { c with counter := 0x12FF })
    (fun t => t.returned == .byte 0x12) = true := by decide

theorem test_B10_tcr4_write : gives (.wrTmrTcr4 0x23) start (fun t => (t.timer.ch[4]).control == 0x23) = true := by decide

theorem test_B11_tsr2_write : gives (.wrTmrTsr2 0x00) (onCh 2 fun c => { c with status := 0x07 })
    (fun t => (t.timer.ch[2]).status == 0x00) = true := by decide

theorem test_B12_compare_resets_to_ones : gives .rdTmrGra1L start (fun t => t.returned == .byte 0xFF) = true := by decide

theorem test_S3_no_expiry_without_elapsed_cycle : gives (.tickSci 0 0) (onSci 0 fun x => { x with control := 0xA0, txTimer := 1 })
    (fun t => t.sci.map Sci.txTimer == [1, 0] && t.trace == []) = true := by decide

theorem test_S7_both_parts_in_order :
    gives (.tickSci 0 20) (onSci 0 fun x => { x with txTimer := 5, control := 0x80, rxq := [0x33], last := 10 })
      (fun t => t.sci.map Sci.txTimer == [200, 0] && t.sci.map Sci.rxData == [0x33, 0x00] && t.sci.map Sci.status == [0xC0, 0x80] &&
        t.sci.map Sci.last == [20, 0] && t.trace == [.irq 54, .irq 53]) = true := by decide

theorem test_W1_scr_arms : gives (.wrSciScr 0 0xA0) start (fun t => t.sci.map Sci.txTimer == [1, 0]) = true := by decide

theorem test_W4_scr_keeps_countdown : gives (.wrSciScr 0 0x80) (onSci 0 fun x => { x with txTimer := 200 })
    (fun t => t.sci.map Sci.txTimer == [200, 0] && t.sci.map Sci.control == [0x80, 0x00]) = true := by decide

theorem test_W5_tdr_transmits : gives (.wrSciTdr 0 0x55) start
    (fun t => t.sci.map Sci.txData == [0x55, 0x00] && t.sci.map Sci.txTimer == [200, 0] && t.sci.map Sci.status == [0x00, 0x80] &&
      t.trace == [.tx 0 0x55]) = true := by decide

theorem test_W6_tdr_sentinel : gives (.wrSciTdr 0 0xFF) start
    (fun t => t == onSci 0 fun x => { x with txData := 0xFF }) = true := by decide

theorem test_W8_ssr_write : gives (.wrSciSsr 0 0x80) (onSci 0 fun x => { x with status := 0x40 })
    (fun t => t.sci.map Sci.status == [0x80, 0x80]) = true := by decide

theorem test_W9_rdr_write_ignored : gives (.wrSciRdr 0 0x12) (onSci 0 fun x => { x with rxData := 0x41 })
    (fun t => t.sci.map Sci.rxData == [0x41, 0x00]) = true := by decide

theorem test_W10_raw_write : gives (.wrSciRaw01 0 1 0x19) start
    (fun t => t == onSci 0 fun x => { x with raw := x.raw.set 1 0x19 }) = true := by decide

theorem test_H1_send_appends : gives (.sendSci 0 [0x42, 0x43]) (onSci 0 fun x => { x with rxq := [0x41] })
    (fun t => t.sci.map Sci.rxq == [[0x41, 0x42, 0x43], []]) = true := by decide

theorem test_H3_pend_empty : gives (.pendSci 0) start (fun t => t.returned == .bool false) = true := by decide

/-! ### Witnesses -/

/-- The start state is sound. -/
theorem start_sound : start.Sound := ⟨by decide, by decide, by decide, by decide, by decide⟩

/-- So is the start state with operations to issue. -/
theorem with_ops_sound (l : List Transaction) : ({ start with ops := l } : State).Sound :=
  ⟨start_sound.legal, start_sound.offsets, start_sound.countdown, start_sound.snap, start_sound.last⟩

theorem witness_DecodeOfEncode : (Instr.sendSci 1 [0x41]).wellFormed 2 = true ∧ (Instr.wrSciRaw67 7 1 0xFF).wellFormed 8 = true := by
  decide

theorem witness_EncodeOfDecode :
    decode 2 { word := 0x03F, d := 0, c := 0, bs := [] } = .ok .rdTmrOut ∧
    decode 2 { word := 0x080, d := 0, c := 0, bs := [] } = .ok .rdTmrTstr := by decide

theorem witness_ReservedWordsAreRefused :
    (issuing 0x1D2).ops = [{ word := 0x1D2, d := 0x5A, c := 7, bs := [0x41] }] ∧ reservedWord (issuing 0x1D2).sci.length 0x1D2 = true ∧
    (1 : Fin 8).val < 2 := by decide

theorem witness_StepPerformsDecodedOperation :
    start.ops = [] ∧
    ((issuing 0x20B).ops = [{ word := 0x20B, d := 0x5A, c := 7, bs := [0x41] }] ∧
      decode (issuing 0x20B).sci.length { word := 0x20B, d := 0x5A, c := 7, bs := [0x41] } = .ok (.pendSci 1)) ∧
    ((issuing 0x213).ops = [{ word := 0x213, d := 0x5A, c := 7, bs := [0x41] }] ∧
      decode (issuing 0x213).sci.length { word := 0x213, d := 0x5A, c := 7, bs := [0x41] } = .error (.noSuchSci 2)) := by decide

theorem witness_EncodedOperationMeetsContract :
    let s := start.issue [.rdTmr 0x3F, .rdTmrAbs 0x00FFFFA0, .pend 2]
    s.ops = (Op.tmrRead 0x00FFFF9F).encode s.params :: [(Op.tmrRead 0x00FFFFA0).encode s.params, (Op.sciPend 2).encode s.params] := by
  decide

theorem witness_BusReadReturnsByteAt :
    (({ start with ops := [(Op.sciRead 1 0x00FFFFBF).encode d33] } : State).Sound ∧
      memReadOp d33 0x00FFFFBF = some (.sciRead 1 0x00FFFFBF)) ∧
    (({ start with ops := [(Op.tmrRead 0x00FFFF9F).encode d33] } : State).Sound ∧
      memReadOp d33 0x00FFFF9F = some (.tmrRead 0x00FFFF9F)) ∧ start.params = d33 :=
  ⟨⟨with_ops_sound _, by decide⟩, ⟨with_ops_sound _, by decide⟩, rfl⟩

theorem witness_TimerWriteChangesOneByte :
    inTimerWindow d33 0x00FFFF60 = true ∧ inTimerWindow d33 0x00FFFF65 = true ∧ inTimerWindow d33 0x00FFFF9F = true ∧
    (start.issue [.wrTmr 0x3F 0x12]).params = d33 ∧
    (start.issue [.wrTmr 0x3F 0x12]).ops = [(Op.tmrWrite 0x00FFFF9F 0x12).encode (start.issue [.wrTmr 0x3F 0x12]).params] := by decide

theorem witness_OutOfWindowAccessChangesNothing :
    (0x00FFFF5F : Addr).toNat < d33.tmrBase.toNat ∧ d33.tmrBase.toNat + 0x3F < (0x00FFFFA0 : Addr).toNat := by decide

theorem witness_ReadsChangeNothing :
    (Instr.rdSciRdr 1).word.toNat / 256 < 2 ∧ (Instr.rdSciRdr 1).word.toNat / 64 % 2 = 0 ∧
    ∃ t, exec (.rdSciRdr 1) start = .next t := ⟨by decide, by decide, _, rfl⟩

/-- A state with a stored cycle value of 10 in every device. -/
def at10 : State := onSci 1 (fun x => { x with last := 10 }) (onSci 0 (fun x => { x with last := 10 })
  { start with timer := { start.timer with snap := 10 } })

theorem witness_TimerTickBackwardsFaults : 9 < at10.timer.snap ∧ at10.timer.snap ≤ 10 := by decide

theorem witness_TimerTickEffect : 9 < at10.timer.snap ∧ at10.timer.snap ≤ 10 := by decide

theorem witness_CounterRunsFreeWithoutClear :
    start.timer.snap ≤ 70000 ∧ (start.timer.ch[0]).control.toNat / 32 % 4 = 0 ∧
    ((onCh 0 fun c => { c with control := 0x60 }).timer.ch[0]).control.toNat / 32 % 4 = 3 ∧
    (started 0x01 start).timer.subticksDue 70000 0 = 70000 := by decide

/-- Channel 0 of vector T11: clear on A, GRA0 = 3, running. -/
def t11 : State := started 0x01 (onCh 0 fun c => { c with control := 0x20, compareA := 3, ie := 0x05 })

theorem witness_ClearOnAHasPeriodCompareAPlusOne :
    t11.timer.snap ≤ 8 ∧ (t11.timer.ch[0]).control.toNat / 32 % 4 = 1 ∧ (t11.timer.ch[0]).counter = 0 ∧
    (t11.timer.ch[0]).ie.getLsbD 0 = true ∧ t11.timer.subticksDue 8 0 = 2 * ((t11.timer.ch[0]).compareA.toNat + 1) := by decide

/-- Channel 2 of example X1. -/
def x1 : State := started 0x04 (onCh 2 fun c => { c with control := 0x01, compareA := 5, ie := 0x01 })

theorem witness_CompareMatchAFiresOnce :
    x1.timer.snap ≤ 12 ∧ (∀ j : Fin 5, j ≠ 2 → x1.timer.start.getLsbD j.val = false) ∧ (x1.timer.ch[2]).counter = 0 ∧
    (x1.timer.ch[2]).ie.toNat % 8 = 1 ∧
    ((x1.timer.ch[2]).control.toNat / 32 % 4 = 2 → (x1.timer.ch[2]).compareA.toNat ≤ (x1.timer.ch[2]).compareB.toNat) ∧
    x1.timer.subticksDue 12 2 = (x1.timer.ch[2]).compareA.toNat + 1 := by decide

/-- The same channel under clear on B, at the boundary where both compare registers are 5. -/
def x1ClearB : State := started 0x04 (onCh 2 fun c => { c with control := 0x41, compareA := 5, compareB := 5, ie := 0x01 })

theorem witness_CompareMatchAFiresOnce_clear_on_B :
    x1ClearB.timer.snap ≤ 12 ∧ (∀ j : Fin 5, j ≠ 2 → x1ClearB.timer.start.getLsbD j.val = false) ∧
    (x1ClearB.timer.ch[2]).counter = 0 ∧ (x1ClearB.timer.ch[2]).ie.toNat % 8 = 1 ∧
    (x1ClearB.timer.ch[2]).control.toNat / 32 % 4 = 2 ∧
    (x1ClearB.timer.ch[2]).compareA.toNat ≤ (x1ClearB.timer.ch[2]).compareB.toNat ∧
    x1ClearB.timer.subticksDue 12 2 = (x1ClearB.timer.ch[2]).compareA.toNat + 1 := by decide

theorem witness_TicksCompose : t11.timer.snap ≤ 3 ∧ 3 ≤ 8 := by decide

theorem witness_TimerFlagsAreSticky :
    let s := onCh 0 fun c => { c with status := 0x07 }
    ∃ t, exec (.wrTmrTsr0 0x05) s = .next t ∧ (s.timer.ch[0]).status.getLsbD 1 = true ∧ (t.timer.ch[0]).status.getLsbD 1 = false :=
  ⟨_, rfl, by decide, by decide⟩

theorem witness_OnlyTicksMoveTheTimer :
    ∃ t, exec (.tickTmr 3) t11 = .next t ∧ t.timer.snap ≠ t11.timer.snap := ⟨_, rfl, by decide⟩

theorem witness_OnlyTicksMoveTheTimer_serial : ∃ t, exec (.tickSci 1 3) t11 = .next t := ⟨_, rfl⟩

/-- The hypotheses of the serial rows: an instance the platform has, and its word's. -/
theorem witness_SerialRows : (1 : Fin 8).val < 2 ∧ start.sci[(1 : Fin 8).val]? = some (Sci.resetWith d33 4 (Vector.replicate 8 0x00)) := by
  decide

theorem witness_SerialReads : (0 : Fin 8).val < 1 ∧ ∃ x, start.sci[(0 : Fin 8).val]? = some x := ⟨by decide, _, rfl⟩
theorem witness_SerialControlWrite : (1 : Fin 8).val < 2 ∧ ∃ x, start.sci[(1 : Fin 8).val]? = some x := ⟨by decide, _, rfl⟩
theorem witness_SerialTransmitWrite : (1 : Fin 8).val < 2 ∧ ∃ x, start.sci[(1 : Fin 8).val]? = some x := ⟨by decide, _, rfl⟩
theorem witness_SerialStatusAndRawWrites : (0 : Fin 8).val < 2 ∧ ∃ x, start.sci[(0 : Fin 8).val]? = some x := ⟨by decide, _, rfl⟩
theorem witness_SendAppends : (1 : Fin 8).val < 2 ∧ ∃ x, start.sci[(1 : Fin 8).val]? = some x := ⟨by decide, _, rfl⟩
theorem witness_PendAnswersWhetherTheQueueIsNonEmpty : (1 : Fin 8).val < 2 ∧ ∃ x, start.sci[(1 : Fin 8).val]? = some x :=
  ⟨by decide, _, rfl⟩

theorem witness_SerialTickEffect : ∃ x, at10.sci[(1 : Fin 8).val]? = some x ∧ 9 < x.last ∧ x.last ≤ 10 :=
  ⟨_, rfl, by decide, by decide⟩

theorem witness_MissingInstanceIsRefused :
    (Instr.pendSci 2).sci = some 2 ∧ start.sci.length ≤ (2 : Fin 8).val ∧
    (Instr.pendSci 1).sci = some 1 ∧ (1 : Fin 8).val < start.sci.length := by decide

/-- A state in which instance 0 has a byte to deliver. -/
def queued : State := onSci 0 fun x => { x with rxq := [0x41, 0x42] }

theorem witness_InboundBytesLeaveInOrder :
    ∃ t x y, exec (.tickSci 0 5) queued = .next t ∧ queued.sci[0]? = some x ∧ t.sci[0]? = some y ∧
      x.status.getLsbD 6 = false ∧ x.rxq = y.rxData :: y.rxq := ⟨_, _, _, rfl, rfl, rfl, by decide, by decide⟩

theorem witness_InboundBytesLeaveInOrder_send :
    ∃ t x y, exec (.sendSci 0 [0x43]) queued = .next t ∧ queued.sci[0]? = some x ∧ t.sci[0]? = some y ∧ y.rxq = x.rxq ++ [0x43] :=
  ⟨_, _, _, rfl, rfl, rfl, by decide⟩

theorem witness_OnlyStatusWriteSetsTransmitEmpty :
    let s := onSci 0 fun x => { x with status := 0x00 }
    ∃ t x y, exec (.wrSciSsr 0 0x80) s = .next t ∧ s.sci[0]? = some x ∧ t.sci[0]? = some y ∧
      x.status.getLsbD 7 = false ∧ y.status.getLsbD 7 = true := ⟨_, _, _, rfl, rfl, rfl, by decide, by decide⟩

theorem witness_OnlyStatusWriteSetsTransmitEmpty_clear :
    ∃ t x y, exec (.wrSciTdr 0 0x55) start = .next t ∧ start.sci[0]? = some x ∧ t.sci[0]? = some y ∧
      x.status.getLsbD 7 = true ∧ y.status.getLsbD 7 = false := ⟨_, _, _, rfl, rfl, rfl, by decide, by decide⟩

theorem witness_DevicesAreIsolated :
    (∃ t, exec (.tickTmr 3) t11 = .next t ∧ (Instr.tickTmr 3).sci = none) ∧
    (∃ t, exec (.wrSciTdr 0 0x55) start = .next t ∧ (Instr.wrSciTdr 0 0x55).sci = some 0) := ⟨⟨_, rfl, rfl⟩, ⟨_, rfl, rfl⟩⟩

theorem witness_SerialOperationSeesOnlyItsInstance :
    (Instr.wrSciTdr 1 0x55).sci = some 1 ∧ t11.params = queued.params ∧ t11.sci[(1 : Fin 8).val]? = queued.sci[(1 : Fin 8).val]? ∧
    t11 ≠ queued ∧ ∃ t, exec (.wrSciTdr 1 0x55) t11 = .next t := ⟨rfl, rfl, by decide, by decide, _, rfl⟩

/-- The clauses of a stop: a tick below the last-sampled cycle, and an instance that is not there. -/
theorem witness_SerialOperationSeesOnlyItsInstance_stops :
    exec (.tickSci 1 9) at10 = .fault .nonMonotonicCycle ∧ exec (.pendSci 2) start = .refused (.reserved (.noSuchSci 2)) := ⟨rfl, rfl⟩

theorem witness_TimerOperationSeesOnlyTheTimer :
    (Instr.tickTmr 3).sci = none ∧ start.timer = queued.timer ∧ start ≠ queued ∧ ∃ t, exec (.tickTmr 3) start = .next t :=
  ⟨rfl, rfl, by decide, _, rfl⟩

theorem witness_TimerOperationSeesOnlyTheTimer_stop : exec (.tickTmr 9) at10 = .fault .nonMonotonicCycle := rfl

theorem witness_EventsAreThoseTheSpecNames : ∃ t, step (issuing 0x1C3) = .next t ∧ t.trace = [.tx 0 0x5A] := ⟨_, rfl, by decide⟩

theorem witness_InterruptsComeFromTicksOfTheirDevice :
    (∃ t, exec (.tickTmr 4) t11 = .next t ∧ t.trace = t11.trace ++ [.irq 26, .irq 24]) ∧
    (∃ t, exec (.tickSci 0 5) queued = .next t ∧ t.trace = queued.trace ++ [.irq 53]) ∧
    (∃ t, exec (.wrSciTdr 0 0x55) start = .next t ∧ t.trace = start.trace ++ [.tx 0 0x55]) :=
  ⟨⟨_, rfl, by decide⟩, ⟨_, rfl, by decide⟩, ⟨_, rfl, by decide⟩⟩

theorem witness_StepKeepsSoundness : (issuing 0x1C3).Sound ∧ ∃ t, step (issuing 0x1C3) = .next t := ⟨with_ops_sound _, _, rfl⟩

theorem witness_ResetIsSound : d33.legal := by decide

theorem witness_ConstructedState : d33.sci[1]? = some { base := 0x00FFFFB8, irqOffset := 4 } := by decide

theorem witness_StoredCyclesNeverGoBack :
    ∃ t x y, exec (.tickSci 0 20) at10 = .next t ∧ at10.sci[0]? = some x ∧ t.sci[0]? = some y ∧ x.last < y.last :=
  ⟨_, _, _, rfl, rfl, rfl, by decide⟩

theorem witness_DutifulDriverNeverStops : (start.issue [.tickTmr 3, .wrSci 0 3 0x55, .tickSci 1 2, .tickAll 5]).dutiful = true := by
  decide

/-- Both kinds of stop of the statement are reached. -/
theorem witness_FaultAndRefusalAreTheOnlyStops :
    (∃ f, step (issuing 0x200 at10) = .fault f) ∧ (∃ r, step (issuing 0x300) = .refused r) := ⟨⟨_, rfl⟩, ⟨_, rfl⟩⟩

theorem witness_WriteSixteenExpansionWritesTheRegister :
    start.params.tmrBase.toNat ≤ 0xFFFFFFC0 ∧
    (start.issue [.wr16 .gra 0 0x1234, .tickTmr 5]).ops =
      assemble (start.issue [.wr16 .gra 0 0x1234, .tickTmr 5]).params [.wr16 .gra 0 0x1234] ++ assemble d33 [.tickTmr 5] := by decide

end Sys2Proof.Tests
end

section
/-! PROOFS. What an operation makes of the serial instances, said once for all ten shapes; and from it that inbound bytes leave a queue
in order (10_state.md R34). -/

namespace Sys2Proof.Machine

/-- What a shape makes of the serial instance it is for. `Shape.run_sci_of_serial` ties it to the operations. -/
def Shape.onInstance (p : Params) (x : Sci) : Shape → Sci
  | .writeSci k r d => (x.writeReg p k d r).1
  | .tickSci _ c => (x.tick p.clockTime c).1
  | .sendSci _ bs => { x with rxq := x.rxq ++ bs }
  | .readSci _ _ | .pendSci _ => x
  | .readOutside | .writeOutside _ | .readTimer _ | .writeTimer _ _ | .tickTimer _ => x

/-- Storing `f x` over the `x` that stands at `k` is applying `f` at `k`. -/
theorem set_eq_modify {l : List Sci} {k : Nat} {x : Sci} (hx : l[k]? = some x) (f : Sci → Sci) :
    l.set k (f x) = l.modify k f := by
  rw [List.modify_eq_set_getElem?, hx]
  rfl

/-- A timer tick leaves the serial instances alone. -/
theorem tickTimer_next_sci {c : Nat} {s t : State} (h : tickTimer c s = .next t) : t.sci = s.sci := by
  rw [tickTimer_eq] at h
  split at h <;> cases h
  rfl

/-- A shape for no serial instance leaves every instance as it is. -/
theorem Shape.run_sci_of_timer {a : Shape} {s t : State} (h : a.run s = .next t) (ha : a.sci = none) : t.sci = s.sci := by
  cases a with
  | readOutside => simp [(readOutside_next s t).mp h]
  | writeOutside d => simp [(writeOutside_next d s t).mp h]
  | readTimer r => simp [(readTimer_next r s t).mp h]
  | writeTimer r d => simp [(writeTimer_next r d s t).mp h]
  | tickTimer c => exact tickTimer_next_sci h
  | readSci | writeSci | tickSci | sendSci | pendSci => cases ha

/-- A shape for instance `k` changes that instance as `Shape.onInstance` says, and no other (R137). -/
theorem Shape.run_sci_of_serial {a : Shape} {s t : State} {k : Fin 8} (h : a.run s = .next t) (ha : a.sci = some k) :
    t.sci = s.sci.modify k.val (a.onInstance s.params) := by
  cases a with
  | readOutside | writeOutside | readTimer | writeTimer | tickTimer => cases ha
  | readSci j r =>
    cases ha
    obtain ⟨x, -, rfl⟩ := (askSci_next ..).mp h
    exact (List.modify_id ..).symm
  | pendSci j =>
    cases ha
    obtain ⟨x, -, rfl⟩ := (askSci_next ..).mp h
    exact (List.modify_id ..).symm
  | writeSci j r d =>
    cases ha
    obtain ⟨x, hx, rfl⟩ := (updateSci_next ..).mp h
    exact set_eq_modify hx fun x => (x.writeReg s.params k d r).1
  | sendSci j bs =>
    cases ha
    obtain ⟨x, hx, rfl⟩ := (updateSci_next ..).mp h
    exact set_eq_modify hx fun x => { x with rxq := x.rxq ++ bs }
  | tickSci j c =>
    cases ha
    obtain ⟨x, hx, -, rfl⟩ := (tickSci_next ..).mp h
    exact set_eq_modify hx fun x => (x.tick s.params.clockTime c).1

/-- An instance after an operation: either it is as before, or the operation is for it and its shape says what it has become. -/
theorem exec_instance {ins : Instr} {s t : State} (h : exec ins s = .next t) {k : Nat} {x y : Sci}
    (hx : s.sci[k]? = some x) (hy : t.sci[k]? = some y) :
    y = x ∨ ∃ j : Fin 8, j.val = k ∧ (shape ins).sci = some j ∧ y = (shape ins).onInstance s.params x := by
  rw [exec_eq_shape] at h
  cases ha : (shape ins).sci with
  | none =>
    rw [Shape.run_sci_of_timer h ha, hx] at hy
    exact .inl (Option.some.inj hy).symm
  | some j =>
    rw [Shape.run_sci_of_serial h ha, List.getElem?_modify, hx] at hy
    by_cases hj : j.val = k
    · exact .inr ⟨j, hj, rfl, by simpa [hj, eq_comm] using hy⟩
    · exact .inl (by simpa [hj, eq_comm] using hy)

/-- A tick keeps the queue and RDR, or, while receive-full is clear, moves the front byte to RDR (R110). -/
theorem sciTick_inbound (clockTime : Int) (c : Nat) (x : Sci) :
    ((x.tick clockTime c).1.rxq = x.rxq ∧ (x.tick clockTime c).1.rxData = x.rxData) ∨
    (x.status.getLsbD 6 = false ∧ x.rxq = (x.tick clockTime c).1.rxData :: (x.tick clockTime c).1.rxq) := by
  rw [sciTick_eq]
  by_cases hd : x.rxq ≠ [] ∧ receiveFull x.status = false
  · obtain ⟨b, rest, hq⟩ := List.exists_cons_of_ne_nil hd.1
    exact .inr ⟨hd.2, by simp [hd, hq]⟩
  · exact .inl (by simp only [hd, if_false, and_self])

/-- What a shape for instance `j` makes of the queue and RDR of that instance (R34). -/
theorem Shape.onInstance_inbound {a : Shape} {j : Fin 8} (ha : a.sci = some j) (p : Params) (x : Sci) :
    ((a.onInstance p x).rxq = x.rxq ∧ (a.onInstance p x).rxData = x.rxData) ∨
    (∃ bs, a = .sendSci j bs ∧ (a.onInstance p x).rxq = x.rxq ++ bs ∧ (a.onInstance p x).rxData = x.rxData) ∨
    (∃ c, a = .tickSci j c ∧ x.status.getLsbD 6 = false ∧ x.rxq = (a.onInstance p x).rxData :: (a.onInstance p x).rxq) := by
  cases a with
  | readOutside | writeOutside | readTimer | writeTimer | tickTimer => cases ha
  | readSci | pendSci => exact .inl ⟨rfl, rfl⟩
  | writeSci k r d => exact .inl ⟨writeReg_rxq p k d x r, writeReg_rxData p k d x r⟩
  | sendSci k bs =>
    cases ha
    exact .inr (.inl ⟨bs, rfl, rfl, rfl⟩)
  | tickSci k c =>
    cases ha
    exact (sciTick_inbound p.clockTime c x).imp id fun hd => .inr ⟨c, rfl, hd⟩

/-- An operation of the shape `a` is the operation that `a` gives back. -/
theorem eq_instr_of_shape_eq {ins : Instr} {a : Shape} (h : shape ins = a) : ins = a.instr := by
  rw [← h, shape_instr]

/-- Settles O38: an instance that changes is the one its shape is for, and of the ten shapes only a send and a delivering tick touch a
queue or RDR; the bound on the counters is their width. -/
theorem inboundBytesLeaveInOrder : Obligations.InboundBytesLeaveInOrder := by
  intro ins s t h
  refine ⟨fun k x y hx hy => ?_, fun i => Nat.le_of_lt_succ (t.timer.ch[i]).counter.isLt⟩
  obtain rfl | ⟨j, hj, ha, rfl⟩ := exec_instance h hx hy
  · exact .inl ⟨rfl, rfl⟩
  · obtain keeps | ⟨bs, hs, happend⟩ | ⟨c, hs, hfront⟩ := Shape.onInstance_inbound ha s.params x
    · exact .inl keeps
    · exact .inr (.inl ⟨j, bs, hj, eq_instr_of_shape_eq hs, happend⟩)
    · exact .inr (.inr ⟨j, c, hj, eq_instr_of_shape_eq hs, hfront⟩)

end Sys2Proof.Machine
end

section
/-! PROOFS. A write of one byte of a timer channel, and the two byte writes that make up a 16-bit register (20_memory.md R42, R43). -/

namespace Sys2Proof.Machine

/-- A row that writes register `r` of channel `i` changes that channel alone, as `Channel.writeReg` says. -/
theorem exec_writeRow (i : Fin 5) (r : ChanReg) (d : Byte) (s : State) :
    exec (r.writeRow i d) s = .next { s with timer := s.timer.onChannel i (·.writeReg d r), returned := .none } := by
  have hs : shape (r.writeRow i d) = .writeTimer (.chan i r) d := shape_of_instr (.writeTimer (.chan i r) d)
  rw [exec_eq_shape, hs]
  rfl

theorem Timer.onChannel_ch_self (t : Timer) (i : Fin 5) (f : Channel → Channel) : (t.onChannel i f).ch[i] = f t.ch[i] := by
  simp

/-- Two changes of one channel are one change by both, in order. -/
theorem Timer.onChannel_onChannel (t : Timer) (i : Fin 5) (f g : Channel → Channel) :
    (t.onChannel i f).onChannel i g = t.onChannel i (fun ch => g (f ch)) := by
  simp [Timer.onChannel]

/-- The register of a channel that a 16-bit name stands for. -/
def Channel.reg16 (ch : Channel) : Reg16 → Half
  | .tcnt => ch.counter
  | .gra => ch.compareA
  | .grb => ch.compareB

/-- The channel with the register of a 16-bit name replaced by `v`. -/
def Channel.setReg16 (ch : Channel) (v : Half) : Reg16 → Channel
  | .tcnt => { ch with counter := v }
  | .gra => { ch with compareA := v }
  | .grb => { ch with compareB := v }

@[simp] theorem Channel.reg16_setReg16 (ch : Channel) (v : Half) (r : Reg16) : (ch.setReg16 v r).reg16 r = v := by
  cases r <;> rfl

/-- A later store of a 16-bit register covers an earlier one. -/
@[simp] theorem Channel.setReg16_setReg16 (ch : Channel) (v w : Half) (r : Reg16) :
    (ch.setReg16 v r).setReg16 w r = ch.setReg16 w r := by
  cases r <;> rfl

/-- A high-byte write stores the new byte before the low byte the register had (R43). -/
theorem Channel.writeReg_high (ch : Channel) (d : Byte) (r : Reg16) :
    ch.writeReg d r.high = ch.setReg16 (d ++ loByte (ch.reg16 r)) r := by
  cases r <;> simp [Channel.writeReg, Channel.setReg16, Channel.reg16, Reg16.high, withHi_append]

/-- A low-byte write stores the new byte after the high byte the register had (R43). -/
theorem Channel.writeReg_low (ch : Channel) (d : Byte) (r : Reg16) :
    ch.writeReg d r.low = ch.setReg16 (hiByte (ch.reg16 r) ++ d) r := by
  cases r <;> simp [Channel.writeReg, Channel.setReg16, Channel.reg16, Reg16.low, withLo_append]

theorem Channel.writeReg_high_then_low (ch : Channel) (hi lo : Byte) (r : Reg16) :
    (ch.writeReg hi r.high).writeReg lo r.low = ch.setReg16 (hi ++ lo) r := by
  simp [Channel.writeReg_high, Channel.writeReg_low]

theorem Channel.writeReg_low_then_high (ch : Channel) (hi lo : Byte) (r : Reg16) :
    (ch.writeReg lo r.low).writeReg hi r.high = ch.setReg16 (hi ++ lo) r := by
  simp [Channel.writeReg_high, Channel.writeReg_low]

/-- A byte register of a 16-bit name is not TIOR, which alone does not read back. -/
theorem readReg_writeReg_half (ch : Channel) (d : Byte) (r : Reg16) :
    (ch.writeReg d r.high).readReg r.high = d ∧ (ch.writeReg d r.low).readReg r.low = d := by
  simp only [Channel.readReg_writeReg_self]
  cases r <;> exact ⟨rfl, rfl⟩

/-- The two byte registers of a 16-bit name are different, so a write to one leaves the other. -/
theorem readReg_writeReg_other_half (ch : Channel) (d : Byte) (r : Reg16) :
    (ch.writeReg d r.high).readReg r.low = ch.readReg r.low ∧ (ch.writeReg d r.low).readReg r.high = ch.readReg r.high := by
  have hne : r.low ≠ r.high := by cases r <;> decide
  exact ⟨Channel.readReg_writeReg_of_ne _ _ _ _ hne, Channel.readReg_writeReg_of_ne _ _ _ _ hne.symm⟩

/-- The number of two bytes put together. -/
theorem append_eq_ofNat (hi lo : Byte) : (hi ++ lo : BitVec 16) = BitVec.ofNat 16 (hi.toNat * 256 + lo.toNat) := by
  rw [← append_toNat, BitVec.ofNat_toNat, BitVec.setWidth_eq]

/-- Both halves of a register of channel `i` written, the high one first: one store of the two bytes. -/
theorem Timer.onChannel_high_then_low (t : Timer) (i : Fin 5) (hi lo : Byte) (r : Reg16) :
    (t.onChannel i (·.writeReg hi r.high)).onChannel i (·.writeReg lo r.low) = t.onChannel i (·.setReg16 (hi ++ lo) r) := by
  simp only [Timer.onChannel_onChannel, Channel.writeReg_high_then_low]

/-- The same with the low one first. -/
theorem Timer.onChannel_low_then_high (t : Timer) (i : Fin 5) (hi lo : Byte) (r : Reg16) :
    (t.onChannel i (·.writeReg lo r.low)).onChannel i (·.writeReg hi r.high) = t.onChannel i (·.setReg16 (hi ++ lo) r) := by
  simp only [Timer.onChannel_onChannel, Channel.writeReg_low_then_high]

/-- Settles O16: in either order the two byte writes are one store of `hi ++ lo` in the register of channel `i`. -/
theorem halfWritesInEitherOrder : Obligations.HalfWritesInEitherOrder := by
  intro s r i hi lo
  have hself := readReg_writeReg_half (s.timer.ch[i])
  have hother := readReg_writeReg_other_half (s.timer.ch[i])
  refine ⟨_, { s with timer := s.timer.onChannel i (·.setReg16 (hi ++ lo) r), returned := .none }, _,
    exec_writeRow .., ?_, exec_writeRow .., ?_, ?_, ?_, ?_, ?_, ?_⟩
  · rw [exec_writeRow, Timer.onChannel_high_then_low]
  · rw [exec_writeRow, Timer.onChannel_low_then_high]
  · rw [Timer.onChannel_ch_self, (hself hi r).1]
  · rw [Timer.onChannel_ch_self, (hother hi r).1]
  · rw [Timer.onChannel_ch_self, (hself lo r).2]
  · rw [Timer.onChannel_ch_self, (hother lo r).2]
  · rw [Timer.onChannel_ch_self, ← append_eq_ofNat]
    cases r <;> rfl

end Sys2Proof.Machine
end

section
/-! PROOFS. The operations whose word is a bus read (30_encoding.md R51, R52), and that a read changes only what is returned to the
driver (20_memory.md R45). -/

namespace Sys2Proof

/-- The word of a timer write: class 0b00, h and w set, the offset of the register (R51). -/
theorem TmrReg.word_writeRow (r : TmrReg) (d : Byte) : (r.writeRow d).word = 0x0C0 ||| r.offset.setWidth 10 := by
  cases r with
  | chan i r => cases r <;> fin_cases i <;> rfl
  | scratch2C j => fin_cases j <;> rfl
  | scratch30 j => fin_cases j <;> rfl
  | scratch3C j => fin_cases j <;> rfl
  | _ => rfl

/-- The word of a serial write: class 0b01, bit 7 and w set, the instance and the offset of the register (R52). -/
theorem SciReg.word_writeRow (k : Fin 8) (r : SciReg) (d : Byte) :
    (r.writeRow k d).word = 0x1C0 ||| kBits k ||| r.offset.setWidth 10 := by
  cases r with
  | raw01 j => fin_cases k <;> fin_cases j <;> rfl
  | raw67 j => fin_cases k <;> fin_cases j <;> rfl
  | scr | tdr | ssr | rdr => fin_cases k <;> rfl

/-- A timer write has bit 6 of its word set, whatever its register. -/
theorem TmrReg.writeRow_bit6 (r : TmrReg) (d : Byte) : (r.writeRow d).word.toNat / 64 % 2 = 1 := by
  rw [TmrReg.word_writeRow]
  generalize r.offset = off
  revert off
  decide

/-- A serial write has bit 6 of its word set, whatever its instance and register. -/
theorem SciReg.writeRow_bit6 (k : Fin 8) (r : SciReg) (d : Byte) : (r.writeRow k d).word.toNat / 64 % 2 = 1 := by
  rw [SciReg.word_writeRow]
  generalize r.offset = off
  revert k off
  decide

namespace Machine

/-- The shapes that read a register over the bus. -/
def Shape.isRead : Shape → Bool
  | .readOutside | .readTimer _ | .readSci _ _ => true
  | .writeOutside _ | .writeTimer _ _ | .writeSci _ _ _ | .tickTimer _ | .tickSci _ _ | .sendSci _ _ | .pendSci _ => false

/-- The byte that a read returns, where it has an answer. `Shape.run_read_next` ties it to the operations. -/
def Shape.byteRead (s : State) : Shape → Option Byte
  | .readOutside => some 0x00
  | .readTimer r => some (s.timer.readReg r)
  | .readSci k r => s.sci[k.val]?.map (·.readReg r)
  | .writeOutside _ | .writeTimer _ _ | .writeSci _ _ _ | .tickTimer _ | .tickSci _ _ | .sendSci _ _ | .pendSci _ => none

/-- A read answers exactly when it has a byte to return, and then nothing but the value returned changes (R45). -/
theorem Shape.run_read_next {a : Shape} (ha : a.isRead = true) (s t : State) :
    a.run s = .next t ↔ ∃ b, a.byteRead s = some b ∧ t = s.answer (.byte b) := by
  cases a with
  | readOutside => simp [Shape.run, Shape.byteRead, readOutside_next]
  | readTimer r => simp [Shape.run, Shape.byteRead, readTimer_next]
  | readSci k r => simp [Shape.run, Shape.byteRead, Machine.readSci, askSci_next]
  | writeOutside | writeTimer | writeSci | tickTimer | tickSci | sendSci | pendSci => cases ha

/-- What was returned last does not matter to a read. -/
@[simp] theorem Shape.byteRead_answer (a : Shape) (s : State) (v : Returned) : a.byteRead (s.answer v) = a.byteRead s := by
  cases a <;> rfl

/-- A read that has answered gives the same state when it is performed again. -/
theorem Shape.run_read_again {a : Shape} (ha : a.isRead = true) {s : State} {b : Byte} (hb : a.byteRead s = some b) :
    a.run (s.answer (.byte b)) = .next (s.answer (.byte b)) :=
  (Shape.run_read_next ha ..).mpr ⟨b, by rw [Shape.byteRead_answer, hb], rfl⟩

/-- The word tells a bus read: a write has bit 6 set, and the host's operations are of class 0b10. -/
theorem Shape.isRead_of_word {a : Shape} (hclass : a.instr.word.toNat / 256 < 2) (hbit6 : a.instr.word.toNat / 64 % 2 = 0) :
    a.isRead = true := by
  cases a with
  | readOutside | readTimer | readSci => rfl
  | writeOutside d => exact absurd hbit6 (by decide : (0x040 : TWord).toNat / 64 % 2 ≠ 0)
  | writeTimer r d => exact absurd ((r.writeRow_bit6 d).symm.trans hbit6) (by decide)
  | writeSci k r d => exact absurd ((r.writeRow_bit6 k d).symm.trans hbit6) (by decide)
  | tickTimer c => exact absurd hclass (by decide : ¬ (0x200 : TWord).toNat / 256 < 2)
  | tickSci k c => exact absurd hclass ((by decide : ∀ k : Fin 8, ¬ (0x201 ||| kBits k).toNat / 256 < 2) k)
  | sendSci k bs => exact absurd hclass ((by decide : ∀ k : Fin 8, ¬ (0x202 ||| kBits k).toNat / 256 < 2) k)
  | pendSci k => exact absurd hclass ((by decide : ∀ k : Fin 8, ¬ (0x203 ||| kBits k).toNat / 256 < 2) k)

/-- Settles O19: a read word has one of the three reading shapes, and a read returns a byte that only the devices decide. -/
theorem readsChangeNothing : Obligations.ReadsChangeNothing := by
  intro i s t hclass hbit6 h
  have hread : (shape i).isRead = true :=
    Shape.isRead_of_word (by rwa [shape_instr]) (by rwa [shape_instr])
  rw [exec_eq_shape] at h
  obtain ⟨b, hb, rfl⟩ := (Shape.run_read_next hread s t).mp h
  exact ⟨⟨b, rfl⟩, by rw [exec_eq_shape, Shape.run_read_again hread hb]⟩

end Machine
end Sys2Proof
end

section
/-! PROOFS. The fields of a word as numbers, and from them that the decoder rejects exactly the words of R57 (30_encoding.md) and none
that a bus access is encoded as. -/

namespace Sys2Proof

/-- The number in the `len` bits of a word from bit `i` up. -/
theorem field_toNat (w : TWord) (i len : Nat) : (w.extractLsb' i len).toNat = w.toNat / 2 ^ i % 2 ^ len := by
  rw [BitVec.extractLsb'_toNat, Nat.shiftRight_eq_div_pow]

/-- The class of a word is the number above its low byte, for a word has ten bits (R50). -/
theorem classField_toNat (w : TWord) : (w.extractLsb' 8 2).toNat = w.toNat / 256 := by
  rw [field_toNat]
  omega

theorem kField_val (w : TWord) : (kField w).val = w.toNat / 8 % 8 :=
  field_toNat w 3 3

theorem hostField_ne_zero_iff (w : TWord) : w.extractLsb' 6 2 ≠ 0 ↔ w.toNat / 64 % 4 ≠ 0 := by
  rw [← BitVec.toNat_ne_iff_ne, field_toNat]
  rfl

theorem getLsbD_eq_decide (w : TWord) (i : Nat) : w.getLsbD i = decide (w.toNat / 2 ^ i % 2 = 1) :=
  Nat.testBit_eq_decide_div_mod_eq

/-- A serial word is rejected for a clear bit 7 or for its instance (R52). -/
theorem decodeSerial_error_iff (n : Nat) (w : TWord) (d : Byte) :
    (∃ r, decodeSerial n w d = .error r) ↔ w.getLsbD 7 = false ∨ n ≤ (kField w).val := by
  unfold decodeSerial
  split_ifs with h7 hk
  · exact iff_of_true ⟨_, rfl⟩ (.inl h7)
  · exact iff_of_true ⟨_, rfl⟩ (.inr hk)
  all_goals exact iff_of_false (by simp) (not_or.mpr ⟨h7, hk⟩)

/-- A decoding under a condition is rejected exactly where the condition fails. -/
theorem ite_ok_error_iff (p : Prop) [Decidable p] (i : Instr) (e : Reserved) :
    (∃ r, (if p then .ok i else .error e : Except Reserved Instr) = .error r) ↔ ¬p := by
  split <;> simp [*]

/-- A host word is rejected for bits 7:6, for bit 2, for the instance field of a timer tick, or for the instance of a serial
operation (R53). -/
theorem decodeHost_error_iff (n : Nat) (t : Transaction) :
    (∃ r, decodeHost n t = .error r) ↔
      t.word.extractLsb' 6 2 ≠ 0 ∨ t.word.getLsbD 2 = true ∨
      if (t.word.extractLsb' 0 2).toNat = 0 then (kField t.word).val ≠ 0 else n ≤ (kField t.word).val := by
  unfold decodeHost
  dsimp only
  split
  case isTrue h76 => exact iff_of_true ⟨_, rfl⟩ (.inl h76)
  case isFalse h76 =>
    rw [or_iff_right h76]
    split
    case isTrue h2 => exact iff_of_true ⟨_, rfl⟩ (.inl h2)
    case isFalse h2 =>
      rw [or_iff_right h2]
      split
      case h_1 hop => rw [ite_ok_error_iff, if_pos hop]
      case h_2 hop => rw [ite_ok_error_iff, if_neg (by omega), not_lt]
      case h_3 hop => rw [ite_ok_error_iff, if_neg (by omega), not_lt]
      case h_4 hop _ _ => rw [ite_ok_error_iff, if_neg hop, not_lt]

/-- A timer access is of class 0b00, inside the window and outside it (R51, R55). -/
theorem Op.timerWord_class (p : Params) (a : Addr) (d : Byte) :
    ((Op.tmrRead a).encode p).word.toNat / 256 = 0 ∧ ((Op.tmrWrite a d).encode p).word.toNat / 256 = 0 := by
  have hoff : ∀ off : BitVec 6,
      (0x080 ||| off.setWidth 10 : TWord).toNat / 256 = 0 ∧ (0x0C0 ||| off.setWidth 10 : TWord).toNat / 256 = 0 := by decide
  unfold Op.encode
  dsimp only
  split_ifs
  · exact hoff _
  · decide

/-- A serial access is of class 0b01 with bit 7 set, and its instance field holds the instance (R52, R55). -/
theorem serialWord_fields (k : Fin 8) (off : BitVec 3) (bit6 : Bool) :
    let w : TWord := (if bit6 then 0x1C0 else 0x180) ||| kBits k ||| off.setWidth 10
    w.toNat / 256 = 1 ∧ w.getLsbD 7 = true ∧ kField w = k := by
  revert k off bit6
  decide

namespace Machine

/-- R57 as a proposition about numbers. -/
theorem reservedWord_iff (n w : Nat) :
    reservedWord n w = true ↔
      w / 256 = 3 ∨ (w / 256 = 1 ∧ (w / 128 % 2 = 0 ∨ n ≤ w / 8 % 8)) ∨
      (w / 256 = 2 ∧ (w / 64 % 4 ≠ 0 ∨ 4 ≤ w % 8 ∨ (w % 8 = 0 ∧ w / 8 % 8 ≠ 0) ∨ (1 ≤ w % 8 ∧ w % 8 ≤ 3 ∧ n ≤ w / 8 % 8))) := by
  simp only [reservedWord, Bool.or_eq_true, Bool.and_eq_true, beq_iff_eq, bne_iff_ne, decide_eq_true_iff, or_assoc, and_assoc]

/-- R57 for a word of class 0b00: none is reserved. -/
theorem reservedWord_class0 {w : TWord} (hclass : w.toNat / 256 = 0) (n : Nat) : reservedWord n w.toNat = false := by
  rw [Bool.eq_false_iff, ne_eq, reservedWord_iff]
  omega

/-- R57 for a word of class 0b01, on its fields. -/
theorem reservedWord_class1 {w : TWord} (hclass : w.toNat / 256 = 1) (n : Nat) :
    reservedWord n w.toNat = true ↔ w.getLsbD 7 = false ∨ n ≤ (kField w).val := by
  rw [reservedWord_iff, kField_val, getLsbD_eq_decide, decide_eq_false_iff_not]
  omega

/-- R57 for a word of class 0b10, on its fields. -/
theorem reservedWord_class2 {w : TWord} (hclass : w.toNat / 256 = 2) (n : Nat) :
    reservedWord n w.toNat = true ↔
      w.extractLsb' 6 2 ≠ 0 ∨ w.getLsbD 2 = true ∨
      if (w.extractLsb' 0 2).toNat = 0 then (kField w).val ≠ 0 else n ≤ (kField w).val := by
  rw [reservedWord_iff, kField_val, getLsbD_eq_decide, decide_eq_true_iff, hostField_ne_zero_iff, field_toNat]
  split_ifs <;> omega

/-- R57 for a word of class 0b11: each is reserved. -/
theorem reservedWord_class3 {w : TWord} (hclass : w.toNat / 256 = 3) (n : Nat) : reservedWord n w.toNat = true :=
  (reservedWord_iff n w.toNat).mpr (.inl hclass)

/-- The decoder rejects exactly the reserved words, class by class (R57). -/
theorem decode_error_iff_reservedWord (n : Nat) (t : Transaction) :
    (∃ r, decode n t = .error r) ↔ reservedWord n t.word.toNat = true := by
  obtain ⟨w, d, c, bs⟩ := t
  have hfield := classField_toNat w
  have hclass : w.toNat / 256 = 0 ∨ w.toNat / 256 = 1 ∨ w.toNat / 256 = 2 ∨ w.toNat / 256 = 3 := by omega
  obtain h | h | h | h := hclass
  · simp [decode_class0 (hfield.trans h), reservedWord_class0 h]
  · rw [decode_class1 (hfield.trans h), decodeSerial_error_iff, reservedWord_class1 h]
  · rw [decode_class2 (hfield.trans h), decodeHost_error_iff, reservedWord_class2 h]
  · simp [decode_class3 (hfield.trans h), reservedWord_class3 h]

/-- A step at a transaction that the decoder rejects is refused for the decoder's reason. -/
theorem step_of_decode_error {s : State} {t : Transaction} {rest : List Transaction} {r : Reserved} (hops : s.ops = t :: rest)
    (hr : decode s.sci.length t = .error r) : step s = .refused (.reserved r) := by
  have hfetch := (fetch_eq_some s _ t).mpr ⟨rest, hops, rfl⟩
  simp only [step, hfetch, hr]

/-- A serial access to an instance there is has no reserved word. -/
theorem reservedWord_serialWord {n : Nat} {k : Fin 8} (hk : k.val < n) (off : BitVec 3) (bit6 : Bool) :
    reservedWord n ((if bit6 then 0x1C0 else 0x180) ||| kBits k ||| off.setWidth 10 : TWord).toNat = false := by
  obtain ⟨hclass, h7, hfield⟩ := serialWord_fields k off bit6
  rw [Bool.eq_false_iff, ne_eq, reservedWord_class1 hclass, h7, hfield]
  simpa using hk

/-- Settles O3: the decoder and R57 agree class by class, and the word of a bus access is of class 0b00, or of class 0b01 with bit 7
set and an instance there is. -/
theorem reservedWordsAreRefused : Obligations.ReservedWordsAreRefused := by
  refine ⟨decode_error_iff_reservedWord, fun s t rest hops hreserved => ?_, fun n p a d k hk => ?_⟩
  · obtain ⟨r, hr⟩ := (decode_error_iff_reservedWord s.sci.length t).mpr hreserved
    exact ⟨r, step_of_decode_error hops hr⟩
  · obtain ⟨hread, hwrite⟩ := Op.timerWord_class p a d
    exact ⟨reservedWord_class0 hread n, reservedWord_class0 hwrite n, reservedWord_serialWord hk (sciOffset a) false,
      reservedWord_serialWord hk (sciOffset a) true⟩

end Machine
end Sys2Proof
end

section
/-! PROOFS. One sub-tick on numbers and bits (40_timer_tick.md R64 to R68). -/

namespace Sys2Proof.Machine

/-- The auto-clear mode of a channel is the number in bits 6:5 of its control register (R15). -/
theorem Channel.cclr_eq_iff (ch : Channel) (m : BitVec 2) : ch.cclr = m ↔ ch.control.toNat / 32 % 4 = m.toNat := by
  rw [← BitVec.toNat_inj, Channel.cclr, BitVec.extractLsb'_toNat, Nat.shiftRight_eq_div_pow]

/-- The counter after a sub-tick as a number: cleared on a match that its clear pattern names, else one up modulo 65536 (R64). -/
theorem Channel.nextCounter_toNat (ch : Channel) :
    ch.nextCounter.toNat =
      if (ch.counter = ch.compareA ∧ ch.control.toNat / 32 % 4 = 1) ∨ (ch.counter = ch.compareB ∧ ch.control.toNat / 32 % 4 = 2)
        then 0 else (ch.counter.toNat + 1) % 65536 := by
  simp only [Channel.nextCounter, Channel.matchA, Channel.matchB, Bool.or_eq_true, Bool.and_eq_true, beq_iff_eq,
    Channel.cclr_eq_iff, Config.cclrOnA, Config.cclrOnB, apply_ite BitVec.toNat, BitVec.toNat_add]
  rfl

/-- Setting the flag at bit `j` when an event happens changes no other bit and clears none. -/
theorem getLsbD_setWhen_twoPow (hit : Bool) {j : Nat} (hj : j < 8) (status : Byte) (b : Nat) :
    (setWhen hit (BitVec.twoPow 8 j) status).getLsbD b = (status.getLsbD b || (hit && decide (b = j))) := by
  cases hit <;> simp [setWhen, BitVec.getLsbD_twoPow, hj, eq_comm]

/-- Every bit of the status register after a sub-tick: bits 0, 1 and 2 are the sticky flags of A, B and overflow (R65 to R67). -/
theorem Channel.statusAfter_getLsbD (ch : Channel) (b : Nat) :
    ch.statusAfter.getLsbD b =
      (ch.status.getLsbD b || (ch.matchA && decide (b = 0)) || (ch.matchB && decide (b = 1)) || (ch.overflow && decide (b = 2))) := by
  have hmasks : (0x01 : Byte) = BitVec.twoPow 8 0 ∧ (0x02 : Byte) = BitVec.twoPow 8 1 ∧ (0x04 : Byte) = BitVec.twoPow 8 2 := by decide
  obtain ⟨hA, hB, hovf⟩ := hmasks
  rw [Channel.statusAfter, hA, hB, hovf, getLsbD_setWhen_twoPow _ (by decide), getLsbD_setWhen_twoPow _ (by decide),
    getLsbD_setWhen_twoPow _ (by decide)]

/-- The events of a sub-tick, each under its own condition (R65 to R67). -/
theorem Channel.eventsOf_eq (i : Fin 5) (ch : Channel) :
    ch.eventsOf i =
      (if ch.counter = ch.compareA ∧ ch.ie.getLsbD 0 = true then [.irq (24 + 4 * i.val)] else []) ++
      (if ch.counter = ch.compareB ∧ ch.ie.getLsbD 1 = true then [.irq (25 + 4 * i.val)] else []) ++
      (if ch.counter = 0 ∧ ch.ie.getLsbD 2 = true then [.irq (26 + 4 * i.val)] else []) := by
  simp only [Channel.eventsOf, raiseWhen, Channel.matchA, Channel.matchB, Channel.overflow, Bool.and_eq_true, beq_iff_eq]

/-- Settles O22: the counter, the bits of the status register and the events are those of the lemmas above, and a sub-tick writes no
other register. -/
theorem subtickFollowsTheFiveSteps : Obligations.SubtickFollowsTheFiveSteps := by
  intro i ch
  refine ⟨ch.nextCounter_toNat, ?bit0, ?bit1, ?bit2, fun b hb => ?others, rfl, rfl, rfl, rfl, ch.eventsOf_eq i⟩
  all_goals rw [Channel.subtick_status, Channel.statusAfter_getLsbD]
  case bit0 => simp [Channel.matchA, Bool.beq_eq_decide_eq]
  case bit1 => simp [Channel.matchB, Bool.beq_eq_decide_eq]
  case bit2 => simp [Channel.overflow, Bool.beq_eq_decide_eq]
  case others => simp [show b ≠ 0 by omega, show b ≠ 1 by omega, show b ≠ 2 by omega]

end Sys2Proof.Machine
end

section
/-! PROOFS. The timer tick as a whole: when it faults, and otherwise the sub-ticks due on every channel (40_timer_tick.md R60 to R63,
R69 to R71). -/

namespace Sys2Proof.Machine

/-- The shift of a channel is the number in bits 1:0 of its control register (R15). -/
theorem Channel.shift_eq (ch : Channel) : ch.shift = ch.control.toNat % 4 := by
  simp [Channel.shift, BitVec.extractLsb'_toNat]

/-- The number of sub-ticks as a difference of quotients (R63). -/
theorem subtickCount_eq (shift snap c : Nat) : subtickCount shift snap c = c / 2 ^ shift - snap / 2 ^ shift := by
  rw [subtickCount, Nat.shiftRight_eq_div_pow, Nat.shiftRight_eq_div_pow]

/-- A channel runs with its start bit set and its PWM and external-clock bits clear (R22). -/
theorem Timer.runs_iff (t : Timer) (i : Fin 5) :
    t.runs i = true ↔ t.start.getLsbD i.val = true ∧ t.mode.getLsbD i.val = false ∧ (t.ch[i]).control.getLsbD 2 = false := by
  simp only [Timer.runs, Bool.and_eq_true, Bool.not_eq_true', and_assoc]

/-- The sub-ticks due are those between the two cycle values for a channel that runs, and none for another (R63, R71). -/
theorem Timer.subticksDue_eq (t : Timer) (c : Nat) (i : Fin 5) :
    t.subticksDue c i = if t.runs i then subtickCount (t.ch[i]).shift t.snap c else 0 := by
  simp only [Timer.subticksDue, Timer.runs_iff, subtickCount_eq, Channel.shift_eq]

/-- A tick takes every channel through its sub-ticks due, and raises their events in order (R60). -/
theorem Timer.tickChannel_eq (t : Timer) (c : Nat) (i : Fin 5) :
    t.tickChannel c i =
      (Channel.subtick^[t.subticksDue c i] t.ch[i],
       (List.range (t.subticksDue c i)).flatMap fun j => (Channel.subtick^[j] t.ch[i]).eventsOf i) := by
  rw [Timer.tickChannel, Timer.subticksDue_eq]
  split
  case isTrue => exact subticks_eq ..
  case isFalse => rfl

/-- The channels after a tick at `c` that is not below the snapshot. `exec_tickTmr_of_le` ties it to the operation. -/
def Timer.channelsAt (t : Timer) (c : Nat) : Vector Channel 5 := Vector.ofFn fun i => (t.tickChannel c i).1

/-- Each channel after a tick has gone through its sub-ticks due. -/
theorem Timer.channelsAt_getElem (t : Timer) (c : Nat) (i : Fin 5) :
    (t.channelsAt c)[i] = Channel.subtick^[t.subticksDue c i] t.ch[i] := by
  simp [Timer.channelsAt, Timer.tickChannel_eq]

/-- A timer tick below the snapshot is the fault (R62). -/
theorem exec_tickTmr_of_lt {c : Nat} {s : State} (h : c < s.timer.snap) : exec (.tickTmr c) s = .fault .nonMonotonicCycle := by
  rw [exec_eq_shape]
  exact (tickTimer_eq c s).trans (if_pos h)

/-- The next state of a timer tick that is not below the snapshot (R60, R69, R70). -/
theorem exec_tickTmr_of_le {c : Nat} {s : State} (h : s.timer.snap ≤ c) :
    exec (.tickTmr c) s = .next { s with
      timer := { s.timer with ch := s.timer.channelsAt c, snap := c }
      trace := s.trace ++ channelOrder.flatMap fun i => (s.timer.tickChannel c i).2
      returned := .none } := by
  rw [exec_eq_shape]
  exact (tickTimer_eq c s).trans (if_neg (not_lt.mpr h))

/-- Settles O20: the two sides of the snapshot. -/
theorem timerTickBackwardsFaults : Obligations.TimerTickBackwardsFaults :=
  fun _ _ => ⟨exec_tickTmr_of_lt, fun h => ⟨_, exec_tickTmr_of_le h⟩⟩

/-- Settles O21: the next state of a tick has the channels of `Timer.channelsAt` and, channel by channel, the events of
`Timer.tickChannel`, which is the iterated sub-tick. -/
theorem timerTickEffect : Obligations.TimerTickEffect := by
  intro c s
  refine ⟨exec_tickTmr_of_lt, fun h => ⟨s.timer.channelsAt c, s.timer.channelsAt_getElem c, ?_⟩⟩
  simp only [exec_tickTmr_of_le h, Timer.tickChannel_eq, channelOrder]

end Sys2Proof.Machine
end

section
/-! PROOFS. A bus access to the timer, said once for every register of its window: the word of the access decodes to the register's row
(30_encoding.md R51, R56), and the row reads or writes that register and nothing else (41_timer_bus.md). -/

namespace Sys2Proof

/-- The fields of an access inside the timer's window: class 0b00, h set, w the direction, and the offset in bits 5:0 (R51). -/
theorem timerWord_fields (off : BitVec 6) (bit6 : Bool) :
    let w : TWord := (if bit6 then 0x0C0 else 0x080) ||| off.setWidth 10
    (w.extractLsb' 8 2).toNat = 0 ∧ w.getLsbD 7 = true ∧ w.getLsbD 6 = bit6 ∧ w.extractLsb' 0 6 = off := by
  revert off bit6
  decide

/-- The word of a read at the offset of register `r` decodes to the row that reads `r`. -/
theorem decode_timerRead (r : TmrReg) (n : Nat) (d : Byte) (c : Nat) (bs : List Byte) :
    decode n { word := 0x080 ||| r.offset.setWidth 10, d := d, c := c, bs := bs } = .ok r.readRow := by
  obtain ⟨hclass, h7, h6, hoff⟩ := timerWord_fields r.offset false
  rw [if_neg Bool.false_ne_true] at hclass h7 h6 hoff
  simp only [decode_class0 hclass, decodeTimer, h7, h6, hoff, offset_tmrReg]

/-- The word of a write at the offset of register `r` decodes to the row that writes `r`. -/
theorem decode_timerWrite (r : TmrReg) (n : Nat) (d : Byte) (c : Nat) (bs : List Byte) :
    decode n { word := 0x0C0 ||| r.offset.setWidth 10, d := d, c := c, bs := bs } = .ok (r.writeRow d) := by
  obtain ⟨hclass, h7, h6, hoff⟩ := timerWord_fields r.offset true
  rw [if_pos rfl] at hclass h7 h6 hoff
  simp only [decode_class0 hclass, decodeTimer, h7, h6, hoff, offset_tmrReg]

/-- The fields of an access outside the window: class 0b00, h clear, w the direction, whatever bits 5:0 hold (R51). -/
theorem outsideWord_fields {w : TWord} {bit6 : Bool} (hw : w.toNat / 64 = bit6.toNat) :
    (w.extractLsb' 8 2).toNat = 0 ∧ w.getLsbD 7 = false ∧ w.getLsbD 6 = bit6 := by
  have hbit := bit6.toNat_le
  refine ⟨?_, ?_, ?_⟩
  · rw [classField_toNat]; omega
  · rw [getLsbD_eq_decide, decide_eq_false_iff_not]; omega
  · rw [getLsbD_eq_decide, show w.toNat / 2 ^ 6 % 2 = bit6.toNat by omega]
    cases bit6 <;> rfl

/-- A word with h and w clear decodes to the read outside the window. -/
theorem decode_outsideRead {w : TWord} (hw : w.toNat / 64 = 0) (n : Nat) (d : Byte) (c : Nat) (bs : List Byte) :
    decode n { word := w, d := d, c := c, bs := bs } = .ok .rdTmrOut := by
  obtain ⟨hclass, h7, h6⟩ := outsideWord_fields (bit6 := false) hw
  simp only [decode_class0 hclass, decodeTimer, h7, h6]

/-- A word with h clear and w set decodes to the write outside the window. -/
theorem decode_outsideWrite {w : TWord} (hw : w.toNat / 64 = 1) (n : Nat) (d : Byte) (c : Nat) (bs : List Byte) :
    decode n { word := w, d := d, c := c, bs := bs } = .ok (.wrTmrOut d) := by
  obtain ⟨hclass, h7, h6⟩ := outsideWord_fields (bit6 := true) hw
  simp only [decode_class0 hclass, decodeTimer, h7, h6]

/-- The window ends on both sides (R35). -/
theorem inTimerWindow_eq_false_iff (p : Params) (a : Addr) :
    inTimerWindow p a = false ↔ a.toNat < p.tmrBase.toNat ∨ p.tmrBase.toNat + 0x3F < a.toNat := by
  simp only [inTimerWindow, Bool.and_eq_false_iff, decide_eq_false_iff_not, not_le]

namespace Machine

/-- A row that reads timer register `r` returns its byte and changes nothing else (R45). -/
theorem exec_timerRead (r : TmrReg) (s : State) :
    exec r.readRow s = .next { s with returned := .byte (s.timer.readReg r) } := by
  have hs : shape r.readRow = .readTimer r := shape_of_instr (.readTimer r)
  rw [exec_eq_shape, hs]
  rfl

/-- A row that writes timer register `r` changes the timer as `Timer.writeReg` says, and nothing else. -/
theorem exec_timerWrite (r : TmrReg) (d : Byte) (s : State) :
    exec (r.writeRow d) s = .next { s with timer := s.timer.writeReg d r, returned := .none } := by
  have hs : shape (r.writeRow d) = .writeTimer r d := shape_of_instr (.writeTimer r d)
  rw [exec_eq_shape, hs]
  rfl

/-- The read row of a register that holds `b` right after construction. -/
theorem timerReadRow (r : TmrReg) {b : Byte} (hreset : ∀ p scratch, (Timer.resetWith p scratch).readReg r = b) :
    TimerReadRow (0x080 ||| r.offset.setWidth 10) r.readRow (·.readReg r) b :=
  ⟨decode_timerRead r, exec_timerRead r, hreset⟩

/-- The write row of a register. -/
theorem timerWriteRow (r : TmrReg) :
    TimerWriteRow (0x0C0 ||| r.offset.setWidth 10) (fun d => r.writeRow d) (fun d t => t.writeReg d r) :=
  ⟨fun n d => decode_timerWrite r n d, exec_timerWrite r⟩

/-- Settles O9: an out-of-window word has h clear, and an address outside the window is encoded as one with bits 5:0 zero. -/
theorem outOfWindowAccessChangesNothing : Obligations.OutOfWindowAccessChangesNothing := by
  refine ⟨fun n x d c bs => ⟨decode_outsideRead ?_ .., decode_outsideWrite ?_ ..⟩, fun _ => rfl, fun _ _ => rfl,
    fun p a d hout => ?_⟩
  · rw [BitVec.toNat_ofNat]; omega
  · rw [BitVec.toNat_ofNat]; omega
  · have hwindow := (inTimerWindow_eq_false_iff p a).mpr hout
    simp [Op.encode, hwindow]

/-- Settles O10: the four global registers hold 0x00 at construction, so each is a read row (R76, R78, R80, R82). -/
theorem globalReads : Obligations.GlobalReads :=
  ⟨timerReadRow .tstr fun _ _ => rfl, timerReadRow .tsnc fun _ _ => rfl, timerReadRow .tmdr fun _ _ => rfl,
    timerReadRow .tfcr fun _ _ => rfl⟩

end Machine
end Sys2Proof
end

section
/-! PROOFS. The rows of the channel registers (41_timer_bus.md R84 to R103), each said once for all five channels. -/

namespace Sys2Proof.Machine

/-- The word of a read of register `r` of channel `i`: the block base and the block offset (R36, R51). -/
abbrev chanReadWord (i : Fin 5) (r : ChanReg) : TWord := 0x080 ||| (TmrReg.chan i r).offset.setWidth 10

/-- The word of a write to register `r` of channel `i`. -/
abbrev chanWriteWord (i : Fin 5) (r : ChanReg) : TWord := 0x0C0 ||| (TmrReg.chan i r).offset.setWidth 10

/-- The five channels are constructed alike. -/
theorem Timer.resetWith_ch (p : Params) (scratch : Vector Byte 64) (i : Fin 5) :
    (Timer.resetWith p scratch).ch[i] = Channel.reset := by
  fin_cases i <;> rfl

/-- The read row of a channel register, which holds after construction what it holds in `Channel.reset`. -/
theorem chanReadRow (r : ChanReg) (i : Fin 5) :
    TimerReadRow (chanReadWord i r) (r.readRow i) (fun t => (t.ch[i]).readReg r) (Channel.reset.readReg r) :=
  timerReadRow (.chan i r) fun p scratch => congrArg (·.readReg r) (Timer.resetWith_ch p scratch i)

/-- The write row of a channel register changes its channel alone. -/
theorem chanWriteRow (r : ChanReg) (i : Fin 5) :
    TimerWriteRow (chanWriteWord i r) (fun d => r.writeRow i d) (fun d => Timer.onChannel i (·.writeReg d r)) :=
  timerWriteRow (.chan i r)

/-- A change that keeps the channel keeps the timer. -/
theorem Timer.onChannel_id (i : Fin 5) : Timer.onChannel i (fun ch => ch) = fun t => t := by
  funext t
  simp [Timer.onChannel]

/-- The write row of TIOR stores nothing (R16, R87). -/
theorem tiorWriteRow (i : Fin 5) :
    TimerWriteRow (chanWriteWord i .tior) (fun d => ChanReg.tior.writeRow i d) (fun _ t => t) := by
  simpa only [Channel.writeReg_tior, Timer.onChannel_id] using chanWriteRow .tior i

/-- The high byte of a 16-bit register reads as the register divided by 256 (R42). -/
theorem Channel.readReg_high (ch : Channel) (r : Reg16) : ch.readReg r.high = BitVec.ofNat 8 ((ch.reg16 r).toNat / 256) := by
  cases r <;> exact hiByte_eq _

/-- The low byte of a 16-bit register reads as the register's remainder by 256 (R42). -/
theorem Channel.readReg_low (ch : Channel) (r : Reg16) : ch.readReg r.low = BitVec.ofNat 8 ((ch.reg16 r).toNat % 256) := by
  cases r <;> exact loByte_eq _

/-- A high-byte write as a number: the new byte times 256, plus the old low byte (R43). -/
theorem Channel.writeReg_high_eq_ofNat (ch : Channel) (d : Byte) (r : Reg16) :
    ch.writeReg d r.high = ch.setReg16 (BitVec.ofNat 16 (d.toNat * 256 + (ch.reg16 r).toNat % 256)) r := by
  rw [Channel.writeReg_high, ← withHi_append, withHi_eq]

/-- A low-byte write as a number: the old high byte times 256, plus the new byte (R43). -/
theorem Channel.writeReg_low_eq_ofNat (ch : Channel) (d : Byte) (r : Reg16) :
    ch.writeReg d r.low = ch.setReg16 (BitVec.ofNat 16 ((ch.reg16 r).toNat / 256 * 256 + d.toNat)) r := by
  rw [Channel.writeReg_low, ← withLo_append, withLo_eq]

/-- The read row of the high byte of a 16-bit register. -/
theorem highReadRow (r : Reg16) (i : Fin 5) :
    TimerReadRow (chanReadWord i r.high) (r.high.readRow i) (fun t => BitVec.ofNat 8 (((t.ch[i]).reg16 r).toNat / 256))
      (Channel.reset.readReg r.high) := by
  simpa only [Channel.readReg_high] using chanReadRow r.high i

/-- The read row of the low byte of a 16-bit register. -/
theorem lowReadRow (r : Reg16) (i : Fin 5) :
    TimerReadRow (chanReadWord i r.low) (r.low.readRow i) (fun t => BitVec.ofNat 8 (((t.ch[i]).reg16 r).toNat % 256))
      (Channel.reset.readReg r.low) := by
  simpa only [Channel.readReg_low] using chanReadRow r.low i

/-- The write row of the high byte of a 16-bit register. -/
theorem highWriteRow (r : Reg16) (i : Fin 5) :
    TimerWriteRow (chanWriteWord i r.high) (fun d => r.high.writeRow i d) fun d => Timer.onChannel i fun ch =>
      ch.setReg16 (BitVec.ofNat 16 (d.toNat * 256 + (ch.reg16 r).toNat % 256)) r := by
  simpa only [Channel.writeReg_high_eq_ofNat] using chanWriteRow r.high i

/-- The write row of the low byte of a 16-bit register. -/
theorem lowWriteRow (r : Reg16) (i : Fin 5) :
    TimerWriteRow (chanWriteWord i r.low) (fun d => r.low.writeRow i d) fun d => Timer.onChannel i fun ch =>
      ch.setReg16 (BitVec.ofNat 16 ((ch.reg16 r).toNat / 256 * 256 + d.toNat)) r := by
  simpa only [Channel.writeReg_low_eq_ofNat] using chanWriteRow r.low i

/-- Settles O12: the read row of each of the four byte registers, at each channel. -/
theorem channelByteReads : Obligations.ChannelByteReads :=
  ⟨chanReadRow .tcr 0, chanReadRow .tcr 1, chanReadRow .tcr 2, chanReadRow .tcr 3, chanReadRow .tcr 4,
    chanReadRow .tior 0, chanReadRow .tior 1, chanReadRow .tior 2, chanReadRow .tior 3, chanReadRow .tior 4,
    chanReadRow .tier 0, chanReadRow .tier 1, chanReadRow .tier 2, chanReadRow .tier 3, chanReadRow .tier 4,
    chanReadRow .tsr 0, chanReadRow .tsr 1, chanReadRow .tsr 2, chanReadRow .tsr 3, chanReadRow .tsr 4⟩

/-- Settles O13: the read rows of the two halves of each 16-bit register, at each channel. -/
theorem channelHalfReads : Obligations.ChannelHalfReads :=
  ⟨highReadRow .tcnt 0, highReadRow .tcnt 1, highReadRow .tcnt 2, highReadRow .tcnt 3, highReadRow .tcnt 4,
    lowReadRow .tcnt 0, lowReadRow .tcnt 1, lowReadRow .tcnt 2, lowReadRow .tcnt 3, lowReadRow .tcnt 4,
    highReadRow .gra 0, highReadRow .gra 1, highReadRow .gra 2, highReadRow .gra 3, highReadRow .gra 4,
    lowReadRow .gra 0, lowReadRow .gra 1, lowReadRow .gra 2, lowReadRow .gra 3, lowReadRow .gra 4,
    highReadRow .grb 0, highReadRow .grb 1, highReadRow .grb 2, highReadRow .grb 3, highReadRow .grb 4,
    lowReadRow .grb 0, lowReadRow .grb 1, lowReadRow .grb 2, lowReadRow .grb 3, lowReadRow .grb 4⟩

/-- Settles O14: the write row of each of TCR, TIER and TSR, and that of TIOR, which stores nothing, at each channel. -/
theorem channelByteWrites : Obligations.ChannelByteWrites :=
  ⟨chanWriteRow .tcr 0, chanWriteRow .tcr 1, chanWriteRow .tcr 2, chanWriteRow .tcr 3, chanWriteRow .tcr 4,
    chanWriteRow .tier 0, chanWriteRow .tier 1, chanWriteRow .tier 2, chanWriteRow .tier 3, chanWriteRow .tier 4,
    chanWriteRow .tsr 0, chanWriteRow .tsr 1, chanWriteRow .tsr 2, chanWriteRow .tsr 3, chanWriteRow .tsr 4,
    tiorWriteRow 0, tiorWriteRow 1, tiorWriteRow 2, tiorWriteRow 3, tiorWriteRow 4⟩

/-- Settles O15: the write rows of the two halves of each 16-bit register, at each channel. -/
theorem channelHalfWrites : Obligations.ChannelHalfWrites :=
  ⟨highWriteRow .tcnt 0, highWriteRow .tcnt 1, highWriteRow .tcnt 2, highWriteRow .tcnt 3, highWriteRow .tcnt 4,
    lowWriteRow .tcnt 0, lowWriteRow .tcnt 1, lowWriteRow .tcnt 2, lowWriteRow .tcnt 3, lowWriteRow .tcnt 4,
    highWriteRow .gra 0, highWriteRow .gra 1, highWriteRow .gra 2, highWriteRow .gra 3, highWriteRow .gra 4,
    lowWriteRow .gra 0, lowWriteRow .gra 1, lowWriteRow .gra 2, lowWriteRow .gra 3, lowWriteRow .gra 4,
    highWriteRow .grb 0, highWriteRow .grb 1, highWriteRow .grb 2, highWriteRow .grb 3, highWriteRow .grb 4,
    lowWriteRow .grb 0, lowWriteRow .grb 1, lowWriteRow .grb 2, lowWriteRow .grb 3, lowWriteRow .grb 4⟩

end Sys2Proof.Machine
end

section
/-! PROOFS. The rows of the scratch offsets (41_timer_bus.md R104, R105): a scratch register's word counts up from its group's first. -/

namespace Sys2Proof.Machine

/-- The read words of the three groups of scratch offsets, counted from the first of each group. -/
theorem scratchReadWord_eq :
    (∀ j : Fin 4, BitVec.ofNat 10 (0x0AC + j.val) = 0x080 ||| (TmrReg.scratch2C j).offset.setWidth 10) ∧
    (∀ j : Fin 2, BitVec.ofNat 10 (0x0B0 + j.val) = 0x080 ||| (TmrReg.scratch30 j).offset.setWidth 10) ∧
    (∀ j : Fin 4, BitVec.ofNat 10 (0x0BC + j.val) = 0x080 ||| (TmrReg.scratch3C j).offset.setWidth 10) := by decide

/-- The write words of the three groups, the same with w set. -/
theorem scratchWriteWord_eq :
    (∀ j : Fin 4, BitVec.ofNat 10 (0x0EC + j.val) = 0x0C0 ||| (TmrReg.scratch2C j).offset.setWidth 10) ∧
    (∀ j : Fin 2, BitVec.ofNat 10 (0x0F0 + j.val) = 0x0C0 ||| (TmrReg.scratch30 j).offset.setWidth 10) ∧
    (∀ j : Fin 4, BitVec.ofNat 10 (0x0FC + j.val) = 0x0C0 ||| (TmrReg.scratch3C j).offset.setWidth 10) := by decide

/-- Settles O17: each scratch offset is a timer register, whose byte stands in the scratch region at the offset itself (R37). -/
theorem scratchReads : Obligations.ScratchReads := by
  obtain ⟨h2C, h30, h3C⟩ := scratchReadWord_eq
  refine ⟨fun j => ⟨?_, exec_timerRead (.scratch2C j)⟩, fun j => ⟨?_, exec_timerRead (.scratch30 j)⟩,
    fun j => ⟨?_, exec_timerRead (.scratch3C j)⟩⟩
  · rw [h2C]; exact decode_timerRead (.scratch2C j)
  · rw [h30]; exact decode_timerRead (.scratch30 j)
  · rw [h3C]; exact decode_timerRead (.scratch3C j)

/-- Settles O18: a write to a scratch offset is a write to that timer register, which changes its own byte of the scratch region. -/
theorem scratchWrites : Obligations.ScratchWrites := by
  obtain ⟨h2C, h30, h3C⟩ := scratchWriteWord_eq
  refine ⟨fun j => ⟨?_, exec_timerWrite (.scratch2C j)⟩, fun j => ⟨?_, exec_timerWrite (.scratch30 j)⟩,
    fun j => ⟨?_, exec_timerWrite (.scratch3C j)⟩⟩
  · rw [h2C]; exact decode_timerWrite (.scratch2C j)
  · rw [h30]; exact decode_timerWrite (.scratch30 j)
  · rw [h3C]; exact decode_timerWrite (.scratch3C j)

end Sys2Proof.Machine
end

section
/-! PROOFS. The serial tick as an operation: when it faults, and otherwise the next state, with the elapsed cycles as a difference of
integers (42_serial_tick.md R106 to R112). -/

namespace Sys2Proof.Machine

/-- A serial tick below the last-sampled cycle of its instance is the fault (R107). -/
theorem exec_tickSci_of_lt {k : Fin 8} {c : Nat} {s : State} {x : Sci} (hx : s.sci[k.val]? = some x) (h : c < x.last) :
    exec (.tickSci k c) s = .fault .nonMonotonicCycle := by
  rw [exec_eq_shape]
  exact (tickSci_fault ..).mpr ⟨x, hx, h⟩

/-- The next state of a serial tick that is not below the last-sampled cycle of its instance (R106, R111). -/
theorem exec_tickSci_of_le {k : Fin 8} {c : Nat} {s : State} {x : Sci} (hx : s.sci[k.val]? = some x) (h : x.last ≤ c) :
    exec (.tickSci k c) s = .next { s with
      sci := s.sci.set k.val (x.tick s.params.clockTime c).1
      trace := s.trace ++ (x.tick s.params.clockTime c).2
      returned := .none } := by
  rw [exec_eq_shape]
  exact (tickSci_next ..).mpr ⟨x, hx, h, rfl⟩

/-- Settles O34: the next state holds the closed form of the tick of one instance (`sciTick_eq`). Its elapsed cycles, a difference of
naturals, are that of the integers because the tick is not below the last-sampled cycle (R108); its conditions are the statement's under
the names `txIntEnable`, `receiveFull` and `setReceiveFull`. -/
theorem serialTickEffect : Obligations.SerialTickEffect := by
  intro k c s x hx
  refine ⟨exec_tickSci_of_lt hx, fun h => ?_⟩
  have elapsed : ((c - x.last : Nat) : Int) = (c : Int) - (x.last : Int) := Nat.cast_sub h
  rw [exec_tickSci_of_le hx h, sciTick_eq, elapsed, if_congr and_assoc.symm rfl rfl, ← List.append_assoc]
  rfl

end Sys2Proof.Machine
end

section
/-! PROOFS. A bus access to a serial instance, said once for every register of its window: the word of the access decodes to the
register's row (30_encoding.md R52, R56), and the row reads or writes that register and nothing else (43_serial_bus.md R113 to R122). -/

namespace Sys2Proof

/-- The words of a serial read and a serial write, counted from instance 0 in steps of eight (R52, R55). -/
theorem serialWord_eq_or (k : Fin 8) (off : BitVec 3) :
    BitVec.ofNat 10 (0x180 + off.toNat + 8 * k.val) = 0x180 ||| kBits k ||| off.setWidth 10 ∧
    BitVec.ofNat 10 (0x1C0 + off.toNat + 8 * k.val) = 0x1C0 ||| kBits k ||| off.setWidth 10 := by
  revert k off
  decide

/-- The direction of a serial access stands in bit 6, its offset in bits 2:0 (R52). The other fields are in `serialWord_fields`. -/
theorem serialWord_direction_offset (k : Fin 8) (off : BitVec 3) (bit6 : Bool) :
    let w : TWord := (if bit6 then 0x1C0 else 0x180) ||| kBits k ||| off.setWidth 10
    w.getLsbD 6 = bit6 ∧ w.extractLsb' 0 3 = off := by
  revert k off bit6
  decide

/-- The word of a read at the offset of register `r` decodes to the row that reads `r`, for an instance there is. -/
theorem decode_serialRead (r : SciReg) {k : Fin 8} {n : Nat} (hk : k.val < n) (d : Byte) (c : Nat) (bs : List Byte) :
    decode n { word := 0x180 ||| kBits k ||| r.offset.setWidth 10, d := d, c := c, bs := bs } = .ok (r.readRow k) := by
  obtain ⟨hclass, h7, hfield⟩ := serialWord_fields k r.offset false
  obtain ⟨h6, hoff⟩ := serialWord_direction_offset k r.offset false
  rw [if_neg Bool.false_ne_true] at hclass h7 hfield h6 hoff
  rw [← classField_toNat] at hclass
  rw [decode_class1 hclass, decodeSerial_read h7 h6 n d (by rwa [hfield]), hfield, hoff, offset_sciReg]

/-- The word of a write at the offset of register `r` decodes to the row that writes `r`, for an instance there is. -/
theorem decode_serialWrite (r : SciReg) {k : Fin 8} {n : Nat} (hk : k.val < n) (d : Byte) (c : Nat) (bs : List Byte) :
    decode n { word := 0x1C0 ||| kBits k ||| r.offset.setWidth 10, d := d, c := c, bs := bs } = .ok (r.writeRow k d) := by
  obtain ⟨hclass, h7, hfield⟩ := serialWord_fields k r.offset true
  obtain ⟨h6, hoff⟩ := serialWord_direction_offset k r.offset true
  rw [if_pos rfl] at hclass h7 hfield h6 hoff
  rw [← classField_toNat] at hclass
  rw [decode_class1 hclass, decodeSerial_write h7 h6 n d (by rwa [hfield]), hfield, hoff, offset_sciReg]

namespace Machine

/-- A row that reads register `r` of an instance there is returns its byte and changes nothing else (R45). -/
theorem exec_serialRead (r : SciReg) {k : Fin 8} {s : State} {x : Sci} (hx : s.sci[k.val]? = some x) :
    exec (r.readRow k) s = .next { s with returned := .byte (x.readReg r) } := by
  have hs : shape (r.readRow k) = .readSci k r := shape_of_instr (.readSci k r)
  rw [exec_eq_shape, hs]
  exact (askSci_next ..).mpr ⟨x, hx, rfl⟩

/-- A row that writes register `r` of an instance there is changes that instance as `Sci.writeReg` says and emits its events, and does
nothing else. -/
theorem exec_serialWrite (r : SciReg) {k : Fin 8} (d : Byte) {s : State} {x : Sci} (hx : s.sci[k.val]? = some x) :
    exec (r.writeRow k d) s = .next { s with
      sci := s.sci.set k.val (x.writeReg s.params k d r).1
      trace := s.trace ++ (x.writeReg s.params k d r).2
      returned := .none } := by
  have hs : shape (r.writeRow k d) = .writeSci k r d := shape_of_instr (.writeSci k r d)
  rw [exec_eq_shape, hs]
  exact (updateSci_next ..).mpr ⟨x, hx, rfl⟩

/-- The read row of a serial register. -/
theorem sciReadRow (r : SciReg) : SciReadRow (0x180 + r.offset.toNat) (fun k => r.readRow k) (·.readReg r) := by
  refine fun k => ⟨fun n d c bs hk => ?_, fun s x hx => exec_serialRead r hx⟩
  rw [(serialWord_eq_or k r.offset).1]
  exact decode_serialRead r hk d c bs

/-- The write row of a serial register, whose effect may be stated in any form `f` that is equal to the model's. -/
theorem sciWriteRow (r : SciReg) {f : Params → Fin 8 → Byte → Sci → Sci × List Event}
    (hf : ∀ p k d x, x.writeReg p k d r = f p k d x) :
    SciWriteRow (0x1C0 + r.offset.toNat) (fun k d => r.writeRow k d) f := by
  refine fun k => ⟨fun n d c bs hk => ?_, fun d s x hx => ?_⟩
  · rw [(serialWord_eq_or k r.offset).2]
    exact decode_serialWrite r hk d c bs
  · rw [exec_serialWrite r d hx, hf]

/-- The arm bit of an SCR value as a number (R25). -/
theorem armBit_eq_decide (control : Byte) : armBit control = decide (control.toNat / 32 % 2 = 1) :=
  Nat.testBit_eq_decide_div_mod_eq

/-- A write to SCR by the arm bits of the new and the old value, as numbers (R113). -/
theorem Sci.writeScr_eq (x : Sci) (d : Byte) :
    x.writeScr d =
      { x with
        control := d
        txTimer :=
          if d.toNat / 32 % 2 = 1 ∧ x.control.toNat / 32 % 2 = 0 then 1
          else if d.toNat / 32 % 2 = 0 ∧ x.control.toNat / 32 % 2 = 1 then 0
          else x.txTimer } := by
  simp only [Sci.writeScr, armBit_eq_decide, Bool.and_eq_true, Bool.not_eq_true', decide_eq_true_eq, decide_eq_false_iff_not,
    Nat.mod_two_not_eq_one]

/-- Clearing transmit-empty keeps the low seven bits (R114). -/
theorem clearTransmitEmpty_eq (status : Byte) : clearTransmitEmpty status = BitVec.ofNat 8 (status.toNat % 128) := by
  rw [← Nat.and_two_pow_sub_one_eq_mod status.toNat 7, BitVec.ofNat_and, BitVec.ofNat_toNat, BitVec.setWidth_eq]
  rfl

/-- A write to TDR with the cleared status as a number (R114). -/
theorem Sci.writeTdr_eq (p : Params) (k : Fin 8) (d : Byte) (x : Sci) :
    x.writeTdr p k d =
      if d = p.sentinel then ({ x with txData := d }, [])
      else ({ x with txData := d, txTimer := p.clockTime, status := BitVec.ofNat 8 (x.status.toNat % 128) }, [.tx k d]) := by
  rw [Sci.writeTdr, clearTransmitEmpty_eq]

/-- Settles O31: the write row of SCR, the change of its arm bit told by `Sci.writeScr_eq`. -/
theorem serialControlWrite : Obligations.SerialControlWrite :=
  sciWriteRow .scr fun _ _ d x => congrArg (·, []) (x.writeScr_eq d)

/-- Settles O32: the write row of TDR, whose effect `Sci.writeTdr_eq` splits at the sentinel alone. -/
theorem serialTransmitWrite : Obligations.SerialTransmitWrite :=
  sciWriteRow .tdr Sci.writeTdr_eq

/-- Settles O30: the read row of each of the eight offsets; a raw offset is an index of the raw array (R39). -/
theorem serialReads : Obligations.SerialReads :=
  ⟨sciReadRow .scr, sciReadRow .tdr, sciReadRow .ssr, sciReadRow .rdr,
    sciReadRow (.raw01 0), sciReadRow (.raw01 1), sciReadRow (.raw67 0), sciReadRow (.raw67 1),
    fun p o raw => ⟨Sci.resetWith_txData p o raw, Sci.resetWith_status p o raw⟩⟩

/-- Settles O33: the write row of SSR, of RDR and of each raw offset; none of these writes computes anything from what it replaces. -/
theorem serialStatusAndRawWrites : Obligations.SerialStatusAndRawWrites :=
  ⟨sciWriteRow .ssr fun _ _ _ _ => rfl, sciWriteRow .rdr fun _ _ _ _ => rfl,
    sciWriteRow (.raw01 0) fun _ _ _ _ => rfl, sciWriteRow (.raw01 1) fun _ _ _ _ => rfl,
    sciWriteRow (.raw67 0) fun _ _ _ _ => rfl, sciWriteRow (.raw67 1) fun _ _ _ _ => rfl⟩

end Machine
end Sys2Proof
end

section
/-! PROOFS. The host operations of a serial instance (44_serial_host.md R123, R124): the word of each decodes to its operation
(30_encoding.md R53, R56), and what it does with the inbound queue. -/

namespace Sys2Proof

/-- The fields of the word of host operation `op` for instance `k`: class 0b10, bits 7:6 and bit 2 clear, the operation in bits 1:0,
the instance in bits 5:3 (R53). `hostWord_ofNat` ties it to the words of the table. -/
def HostWord (w : TWord) (op : Nat) (k : Fin 8) : Prop :=
  (w.extractLsb' 8 2).toNat = 2 ∧ w.extractLsb' 6 2 = 0 ∧ w.getLsbD 2 = false ∧ (w.extractLsb' 0 2).toNat = op ∧ kField w = k

/-- The host words are counted from instance 0 in steps of eight (R55). -/
theorem hostWord_ofNat (op : Fin 4) (k : Fin 8) : HostWord (BitVec.ofNat 10 (0x200 + op.val + 8 * k.val)) op.val k := by
  unfold HostWord
  revert op k
  decide

/-- The word of host operation 2 decodes to the send of the transaction's bytes, for an instance there is. -/
theorem decode_send {w : TWord} {k : Fin 8} {n : Nat} (hw : HostWord w 2 k) (hk : k.val < n) (d : Byte) (c : Nat) (bs : List Byte) :
    decode n { word := w, d := d, c := c, bs := bs } = .ok (.sendSci k bs) := by
  obtain ⟨hclass, h76, h2, hop, rfl⟩ := hw
  rw [decode_class2 hclass]
  simp only [decodeHost, h76, h2, hop, hk, if_true, if_false, ne_eq, not_true, Bool.false_eq_true]

/-- The word of host operation 3 decodes to hasPendingRX, for an instance there is. -/
theorem decode_pend {w : TWord} {k : Fin 8} {n : Nat} (hw : HostWord w 3 k) (hk : k.val < n) (d : Byte) (c : Nat) (bs : List Byte) :
    decode n { word := w, d := d, c := c, bs := bs } = .ok (.pendSci k) := by
  obtain ⟨hclass, h76, h2, hop, rfl⟩ := hw
  rw [decode_class2 hclass]
  simp only [decodeHost, h76, h2, hop, hk, if_true, if_false, ne_eq, not_true, Bool.false_eq_true]

namespace Machine

/-- A send to an instance there is emits the empty list of events, so its next state differs in the queue and the value returned
alone (R123). -/
theorem exec_sendSci {k : Fin 8} (bs : List Byte) {s : State} {x : Sci} (hx : s.sci[k.val]? = some x) :
    exec (.sendSci k bs) s = .next { s with sci := s.sci.set k.val { x with rxq := x.rxq ++ bs }, returned := .none } := by
  rw [exec_eq_shape]
  exact (updateSci_next ..).mpr ⟨x, hx, by rw [List.append_nil]⟩

/-- hasPendingRX of an instance there is answers about its queue and changes nothing else (R124). -/
theorem exec_pendSci {k : Fin 8} {s : State} {x : Sci} (hx : s.sci[k.val]? = some x) :
    exec (.pendSci k) s = .next { s with returned := .bool (decide (x.rxq ≠ [])) } := by
  have nonempty : decide (x.rxq ≠ []) = !x.rxq.isEmpty := by cases x.rxq <;> rfl
  rw [exec_eq_shape, nonempty]
  exact (askSci_next ..).mpr ⟨x, hx, rfl⟩

/-- Settles O35: the word of R123 is operation 2 of class 0b10, and a send updates its instance by an append, with no event. -/
theorem sendAppends : Obligations.SendAppends :=
  fun k => ⟨fun _ d c bs hk => decode_send (hostWord_ofNat 2 k) hk d c bs, fun bs _ _ hx => exec_sendSci bs hx⟩

/-- Settles O36: the word of R124 is operation 3 of class 0b10, and hasPendingRX only looks at its instance. -/
theorem pendAnswersWhetherTheQueueIsNonEmpty : Obligations.PendAnswersWhetherTheQueueIsNonEmpty :=
  fun k => ⟨fun _ d c bs hk => decode_pend (hostWord_ofNat 3 k) hk d c bs, fun _ _ hx => exec_pendSci hx⟩

end Machine
end Sys2Proof
end

section
/-! PROOFS. The two stops of the machine (60_exceptions.md R126), said once for the ten shapes and carried to a step: a tick below the
stored cycle value, and a reserved word. An operation that the decoder answers is never refused, for the platform has its instance. -/

namespace Sys2Proof

theorem Instr.wellFormed_iff (i : Instr) (n : Nat) : i.wellFormed n = true ↔ ∀ k, i.sci = some k → k.val < n := by
  unfold Instr.wellFormed
  cases i.sci <;> simp

namespace Machine

/-- A shape and its operation name the same instance. -/
theorem Shape.instr_sci (a : Shape) : a.instr.sci = a.sci := by
  rw [sci_eq_shape, shape_of_instr]

/-- The operation of a shape is well formed when the platform has the shape's instance. -/
theorem Shape.instr_wellFormed_iff (a : Shape) (n : Nat) : a.instr.wellFormed n = true ↔ ∀ k, a.sci = some k → k.val < n := by
  rw [Instr.wellFormed_iff, Shape.instr_sci]

/-- A shape with an instance there is gives a well-formed operation. -/
theorem Shape.instr_wellFormed_of_lt {a : Shape} {k : Fin 8} {n : Nat} (ha : a.sci = some k) (hk : k.val < n) :
    a.instr.wellFormed n = true :=
  (a.instr_wellFormed_iff n).mpr fun j hj => by
    cases ha.symm.trans hj
    exact hk

/-- A shape of the timer gives an operation well formed on every platform. -/
theorem Shape.instr_wellFormed_of_none {a : Shape} (ha : a.sci = none) (n : Nat) : a.instr.wellFormed n = true :=
  (a.instr_wellFormed_iff n).mpr fun _ hj => by cases ha.symm.trans hj

theorem shape_eq_iff (i : Instr) (a : Shape) : shape i = a ↔ i = a.instr :=
  ⟨eq_instr_of_shape_eq, fun h => h ▸ shape_of_instr a⟩

/-! ### The decoder's answers -/

theorem decodeTimer_wellFormed (w : TWord) (d : Byte) (n : Nat) : (decodeTimer w d).wellFormed n = true := by
  unfold decodeTimer
  split
  · exact Shape.instr_wellFormed_of_none (a := .readOutside) rfl n
  · exact Shape.instr_wellFormed_of_none (a := .writeOutside d) rfl n
  · exact Shape.instr_wellFormed_of_none (a := .readTimer _) rfl n
  · exact Shape.instr_wellFormed_of_none (a := .writeTimer _ d) rfl n

theorem decodeSerial_wellFormed {n : Nat} {w : TWord} {d : Byte} {i : Instr} (h : decodeSerial n w d = .ok i) :
    i.wellFormed n = true := by
  unfold decodeSerial at h
  split_ifs at h with h7 hk h6 <;> cases h
  · exact Shape.instr_wellFormed_of_lt (a := .writeSci _ _ d) rfl (not_le.mp hk)
  · exact Shape.instr_wellFormed_of_lt (a := .readSci _ _) rfl (not_le.mp hk)

/-- A decoding under a condition is answered exactly where the condition holds. -/
theorem ite_ok_eq_ok_iff (p : Prop) [Decidable p] (i j : Instr) (e : Reserved) :
    (if p then .ok i else .error e : Except Reserved Instr) = .ok j ↔ p ∧ i = j := by
  split <;> simp [*]

theorem decodeHost_wellFormed {n : Nat} {t : Transaction} {i : Instr} (h : decodeHost n t = .ok i) : i.wellFormed n = true := by
  unfold decodeHost at h
  dsimp only at h
  split at h
  case isTrue => cases h
  case isFalse =>
    split at h
    case isTrue => cases h
    case isFalse =>
      split at h <;> obtain ⟨hk, rfl⟩ := (ite_ok_eq_ok_iff ..).mp h
      case h_1 => exact Shape.instr_wellFormed_of_none (a := .tickTimer t.c) rfl n
      case h_2 => exact Shape.instr_wellFormed_of_lt (a := .tickSci _ t.c) rfl hk
      case h_3 => exact Shape.instr_wellFormed_of_lt (a := .sendSci _ t.bs) rfl hk
      case h_4 => exact Shape.instr_wellFormed_of_lt (a := .pendSci _) rfl hk

/-- The decoder answers only operations whose instance the platform has (R56). -/
theorem decode_wellFormed {n : Nat} {t : Transaction} {i : Instr} (h : decode n t = .ok i) : i.wellFormed n = true := by
  unfold decode at h
  split at h
  case h_1 =>
    cases h
    exact decodeTimer_wellFormed ..
  case h_2 => exact decodeSerial_wellFormed h
  case h_3 => exact decodeHost_wellFormed h
  case h_4 => cases h

/-! ### The stops of an operation -/

/-- A shape faults exactly as a tick below the stored cycle value (R62, R107). -/
theorem Shape.run_fault_iff (a : Shape) (s : State) (f : Fault) :
    a.run s = .fault f ↔
      (∃ c, a = .tickTimer c ∧ c < s.timer.snap) ∨ (∃ k c x, a = .tickSci k c ∧ s.sci[k.val]? = some x ∧ c < x.last) := by
  cases a with
  | readOutside => simp [Shape.run, Machine.readOutside]
  | writeOutside d => simp [Shape.run, Machine.writeOutside]
  | readTimer r => simp [Shape.run, Machine.readTimer]
  | writeTimer r d => simp [Shape.run, Machine.writeTimer]
  | readSci k r => simp [Shape.run, Machine.readSci, askSci_ne_fault]
  | writeSci k r d => simp [Shape.run, Machine.writeSci, updateSci_ne_fault]
  | sendSci k bs => simp [Shape.run, Machine.sendSci, updateSci_ne_fault]
  | pendSci k => simp [Shape.run, Machine.pendSci, askSci_ne_fault]
  | tickTimer c =>
    cases f
    simp [Shape.run, tickTimer_eq]
  | tickSci k c => simp [Shape.run, tickSci_fault]

/-- A shape is refused only for an instance the platform does not have (R57). -/
theorem Shape.sci_of_run_refused {a : Shape} {s : State} {r : Refusal} (h : a.run s = .refused r) :
    ∃ k, a.sci = some k ∧ s.sci.length ≤ k.val := by
  cases a with
  | readOutside | writeOutside | readTimer | writeTimer => cases h
  | tickTimer c =>
    simp only [Shape.run, tickTimer_eq] at h
    split at h <;> cases h
  | readSci k r => exact ⟨k, rfl, ((askSci_refused ..).mp h).1⟩
  | writeSci k r d => exact ⟨k, rfl, ((updateSci_refused ..).mp h).1⟩
  | tickSci k c => exact ⟨k, rfl, ((tickSci_refused ..).mp h).1⟩
  | sendSci k bs => exact ⟨k, rfl, ((updateSci_refused ..).mp h).1⟩
  | pendSci k => exact ⟨k, rfl, ((askSci_refused ..).mp h).1⟩

/-- The operations that fault are the ticks below the stored cycle value (R126). -/
theorem exec_fault_iff (i : Instr) (s : State) (f : Fault) :
    exec i s = .fault f ↔
      (∃ c, i = .tickTmr c ∧ c < s.timer.snap) ∨ (∃ k c x, i = .tickSci k c ∧ s.sci[k.val]? = some x ∧ c < x.last) := by
  simp only [exec_eq_shape, Shape.run_fault_iff, shape_eq_iff, Shape.instr]

/-- A well-formed operation is never refused. -/
theorem exec_ne_refused_of_wellFormed {i : Instr} {s : State} (hi : i.wellFormed s.sci.length = true) (r : Refusal) :
    exec i s ≠ .refused r := by
  intro h
  rw [exec_eq_shape] at h
  obtain ⟨k, hk, hlen⟩ := Shape.sci_of_run_refused h
  exact absurd ((i.wellFormed_iff _).mp hi k ((sci_eq_shape i).trans hk)) (not_lt.mpr hlen)

/-! ### The stops of a step -/

/-- With no operation left to issue a step changes nothing (R136). -/
theorem step_of_ops_nil {s : State} (hops : s.ops = []) : step s = .next s := by
  simp only [step, State.fetch, hops]

/-- A step at a transaction that the decoder answers performs its operation. -/
theorem step_of_decode_ok {s : State} {t : Transaction} {rest : List Transaction} {i : Instr} (hops : s.ops = t :: rest)
    (hi : decode s.sci.length t = .ok i) : step s = exec i { s with ops := rest } := by
  have hfetch := (fetch_eq_some s _ t).mpr ⟨rest, hops, rfl⟩
  simp only [step, hfetch, hi]

/-- A step faults exactly where the operation it performs does. -/
theorem step_fault_iff (s : State) (f : Fault) :
    step s = .fault f ↔
      ∃ t rest i, s.ops = t :: rest ∧ decode s.sci.length t = .ok i ∧ exec i { s with ops := rest } = .fault f := by
  constructor
  · intro h
    cases hops : s.ops with
    | nil => cases (step_of_ops_nil hops).symm.trans h
    | cons t rest =>
      cases hdec : decode s.sci.length t with
      | error r => cases (step_of_decode_error hops hdec).symm.trans h
      | ok i => exact ⟨t, rest, i, rfl, hdec, (step_of_decode_ok hops hdec).symm.trans h⟩
  · rintro ⟨t, rest, i, hops, hdec, h⟩
    exact (step_of_decode_ok hops hdec).trans h

/-- A step is refused exactly where the decoder rejects the next transaction. -/
theorem step_refused_iff (s : State) :
    (∃ r, step s = .refused r) ↔ ∃ t rest, s.ops = t :: rest ∧ ∃ e, decode s.sci.length t = .error e := by
  constructor
  · rintro ⟨r, h⟩
    cases hops : s.ops with
    | nil => cases (step_of_ops_nil hops).symm.trans h
    | cons t rest =>
      cases hdec : decode s.sci.length t with
      | error e => exact ⟨t, rest, rfl, e, hdec⟩
      | ok i =>
        have hnot := exec_ne_refused_of_wellFormed (s := { s with ops := rest }) (decode_wellFormed hdec) r
        exact absurd ((step_of_decode_ok hops hdec).symm.trans h) hnot
  · rintro ⟨t, rest, hops, e, hdec⟩
    exact ⟨_, step_of_decode_error hops hdec⟩

/-- Settles O48: a step faults where its operation does, and the operations that fault are the late ticks; it is refused where the
decoder rejects the word, which is where R57 reserves it. -/
theorem faultAndRefusalAreTheOnlyStops : Obligations.FaultAndRefusalAreTheOnlyStops := by
  intro s
  refine ⟨?_, by simp only [step_refused_iff, decode_error_iff_reservedWord]⟩
  simp only [step_fault_iff, exec_fault_iff]
  constructor
  · rintro ⟨f, t, rest, i, hops, hdec, ⟨c, rfl, hc⟩ | ⟨k, c, x, rfl, hx, hc⟩⟩
    · exact ⟨t, rest, hops, .inl ⟨c, hdec, hc⟩⟩
    · exact ⟨t, rest, hops, .inr ⟨k, c, x, hdec, hx, hc⟩⟩
  · rintro ⟨t, rest, hops, ⟨c, hdec, hc⟩ | ⟨k, c, x, hdec, hx, hc⟩⟩
    · exact ⟨.nonMonotonicCycle, t, rest, _, hops, hdec, .inl ⟨c, rfl, hc⟩⟩
    · exact ⟨.nonMonotonicCycle, t, rest, _, hops, hdec, .inr ⟨k, c, x, rfl, hx, hc⟩⟩

end Machine
end Sys2Proof
end

section
/-! PROOFS. What an operation does in closed form, said once for the ten shapes: a timer shape by what it makes of the timer, a serial
shape by what it makes of its instance (60_exceptions.md R137), each with the events it emits and the value it returns. -/

namespace Sys2Proof.Machine

/-- What a shape makes of the timer unit when it is not late. `Shape.run_of_timer` ties it to the operations. -/
def Shape.onTimer (t : Timer) : Shape → Timer
  | .writeTimer r d => t.writeReg d r
  | .tickTimer c => { t with ch := t.channelsAt c, snap := c }
  | .readOutside | .writeOutside _ | .readTimer _ => t
  | .readSci _ _ | .writeSci _ _ _ | .tickSci _ _ | .sendSci _ _ | .pendSci _ => t

/-- The events that a timer shape emits. `Shape.run_of_timer` ties them to the operations. -/
def Shape.timerEvents (t : Timer) : Shape → List Event
  | .tickTimer c => channelOrder.flatMap fun i => (t.tickChannel c i).2
  | .readOutside | .writeOutside _ | .readTimer _ | .writeTimer _ _ => []
  | .readSci _ _ | .writeSci _ _ _ | .tickSci _ _ | .sendSci _ _ | .pendSci _ => []

/-- The value that a timer shape returns. `Shape.run_of_timer` ties it to the operations. -/
def Shape.timerAnswer (t : Timer) : Shape → Returned
  | .readOutside => .byte 0x00
  | .readTimer r => .byte (t.readReg r)
  | .writeOutside _ | .writeTimer _ _ | .tickTimer _ => .none
  | .readSci _ _ | .writeSci _ _ _ | .tickSci _ _ | .sendSci _ _ | .pendSci _ => .none

/-- The events that a serial shape emits for its instance `x`. `Shape.run_of_instance` ties them to the operations. -/
def Shape.instanceEvents (p : Params) (x : Sci) : Shape → List Event
  | .writeSci k r d => (x.writeReg p k d r).2
  | .tickSci _ c => (x.tick p.clockTime c).2
  | .readSci _ _ | .sendSci _ _ | .pendSci _ => []
  | .readOutside | .writeOutside _ | .readTimer _ | .writeTimer _ _ | .tickTimer _ => []

/-- The value that a serial shape returns from its instance `x`. `Shape.run_of_instance` ties it to the operations. -/
def Shape.instanceAnswer (x : Sci) : Shape → Returned
  | .readSci _ r => .byte (x.readReg r)
  | .pendSci _ => .bool (!x.rxq.isEmpty)
  | .writeSci _ _ _ | .tickSci _ _ | .sendSci _ _ => .none
  | .readOutside | .writeOutside _ | .readTimer _ | .writeTimer _ _ | .tickTimer _ => .none

/-- The shape is a tick below the cycle value that its device has stored (R62, R107). -/
def Shape.isLate (stored : Nat) : Shape → Bool
  | .tickTimer c | .tickSci _ c => decide (c < stored)
  | .readOutside | .writeOutside _ | .readTimer _ | .writeTimer _ _ => false
  | .readSci _ _ | .writeSci _ _ _ | .sendSci _ _ | .pendSci _ => false

/-- An operation that only returns a value appends no event. -/
theorem State.answer_eq_append (s : State) (r : Returned) : s.answer r = { s with trace := s.trace ++ [], returned := r } := by
  rw [List.append_nil]
  rfl

/-- A timer shape: the fault of a late tick, else the timer, the events and the value returned that the timer unit alone decides. -/
theorem Shape.run_of_timer {a : Shape} (ha : a.sci = none) (s : State) :
    a.run s =
      if a.isLate s.timer.snap then .fault .nonMonotonicCycle
      else .next { s with
        timer := a.onTimer s.timer, trace := s.trace ++ a.timerEvents s.timer, returned := a.timerAnswer s.timer } := by
  cases a with
  | readOutside | writeOutside | readTimer => exact congrArg Host.Outcome.next (s.answer_eq_append _)
  | writeTimer r d => exact congrArg Host.Outcome.next (State.answer_eq_append { s with timer := s.timer.writeReg d r } .none)
  | tickTimer c =>
    rw [Shape.isLate]
    exact (tickTimer_eq c s).trans (if_congr decide_eq_true_iff.symm rfl rfl)
  | readSci | writeSci | tickSci | sendSci | pendSci => cases ha

/-- Storing an instance over itself changes nothing. -/
theorem set_eq_self {l : List Sci} {k : Nat} {x : Sci} (hx : l[k]? = some x) : l.set k x = l :=
  (set_eq_modify hx id).trans (List.modify_id ..)

/-- A serial shape for an instance there is: the fault of a late tick, else the instance, the events and the value returned, on which
nothing but the instance and the parameters decides. -/
theorem Shape.run_of_instance {a : Shape} {k : Fin 8} {s : State} {x : Sci} (ha : a.sci = some k) (hx : s.sci[k.val]? = some x) :
    a.run s =
      if a.isLate x.last then .fault .nonMonotonicCycle
      else .next { s with
        sci := s.sci.set k.val (a.onInstance s.params x)
        trace := s.trace ++ a.instanceEvents s.params x, returned := a.instanceAnswer x } := by
  cases a with
  | readOutside | writeOutside | readTimer | writeTimer | tickTimer => cases ha
  | readSci | pendSci =>
    cases ha
    refine (askSci_next ..).mpr ⟨x, hx, ?_⟩
    simp only [Shape.onInstance, Shape.instanceEvents, Shape.instanceAnswer, set_eq_self hx, List.append_nil, State.answer]
  | writeSci | sendSci =>
    cases ha
    exact (updateSci_next ..).mpr ⟨x, hx, rfl⟩
  | tickSci j c =>
    cases ha
    rw [Shape.isLate]
    split
    case isTrue hc => exact (tickSci_fault ..).mpr ⟨x, hx, decide_eq_true_iff.mp hc⟩
    case isFalse hc => exact (tickSci_next ..).mpr ⟨x, hx, not_lt.mp (mt decide_eq_true_iff.mpr hc), rfl⟩

/-- A serial shape for an instance the platform lacks is refused as its word is (R57). -/
theorem Shape.run_of_missing {a : Shape} {k : Fin 8} {s : State} (ha : a.sci = some k) (hx : s.sci.length ≤ k.val) :
    a.run s = .refused (.reserved (.noSuchSci k)) := by
  cases a with
  | readOutside | writeOutside | readTimer | writeTimer | tickTimer => cases ha
  | readSci | pendSci =>
    cases ha
    exact (askSci_refused ..).mpr ⟨hx, rfl⟩
  | writeSci | sendSci =>
    cases ha
    exact (updateSci_refused ..).mpr ⟨hx, rfl⟩
  | tickSci =>
    cases ha
    exact (tickSci_refused ..).mpr ⟨hx, rfl⟩

/-- The next state of a timer shape. -/
theorem Shape.run_next_of_timer {a : Shape} {s t : State} (ha : a.sci = none) (h : a.run s = .next t) :
    a.isLate s.timer.snap = false ∧ t = { s with
      timer := a.onTimer s.timer, trace := s.trace ++ a.timerEvents s.timer, returned := a.timerAnswer s.timer } := by
  rw [Shape.run_of_timer ha] at h
  split at h
  case isTrue => cases h
  case isFalse hlate => exact ⟨Bool.eq_false_iff.mpr hlate, (Host.Outcome.next.inj h).symm⟩

/-- The next state of a serial shape, whose instance there is. -/
theorem Shape.run_next_of_serial {a : Shape} {k : Fin 8} {s t : State} (ha : a.sci = some k) (h : a.run s = .next t) :
    ∃ x, s.sci[k.val]? = some x ∧ a.isLate x.last = false ∧ t = { s with
      sci := s.sci.set k.val (a.onInstance s.params x)
      trace := s.trace ++ a.instanceEvents s.params x, returned := a.instanceAnswer x } := by
  cases hx : s.sci[k.val]? with
  | none => cases (Shape.run_of_missing ha (List.getElem?_eq_none_iff.mp hx)).symm.trans h
  | some x =>
    rw [Shape.run_of_instance ha hx] at h
    split at h
    case isTrue => cases h
    case isFalse hlate => exact ⟨x, rfl, Bool.eq_false_iff.mpr hlate, (Host.Outcome.next.inj h).symm⟩

/-- A serial shape has no effect on the timer. -/
theorem Shape.onTimer_of_serial {a : Shape} {k : Fin 8} (ha : a.sci = some k) (t : Timer) : a.onTimer t = t := by
  cases a with
  | readOutside | writeOutside | readTimer | writeTimer | tickTimer => cases ha
  | readSci | writeSci | tickSci | sendSci | pendSci => rfl

/-- What an operation leaves of the timer, whichever device it is for. -/
theorem exec_next_timer {i : Instr} {s t : State} (h : exec i s = .next t) : t.timer = (shape i).onTimer s.timer := by
  rw [exec_eq_shape] at h
  cases ha : (shape i).sci with
  | none =>
    obtain ⟨-, rfl⟩ := Shape.run_next_of_timer ha h
    rfl
  | some k =>
    obtain ⟨x, -, -, rfl⟩ := Shape.run_next_of_serial ha h
    exact (Shape.onTimer_of_serial ha s.timer).symm

/-- No operation writes the parameters, the number of instances or the driver's list. -/
theorem exec_next_keeps {i : Instr} {s t : State} (h : exec i s = .next t) :
    t.params = s.params ∧ t.ops = s.ops ∧ t.sci.length = s.sci.length := by
  rw [exec_eq_shape] at h
  cases ha : (shape i).sci with
  | none =>
    obtain ⟨-, rfl⟩ := Shape.run_next_of_timer ha h
    exact ⟨rfl, rfl, rfl⟩
  | some k =>
    obtain ⟨x, -, -, rfl⟩ := Shape.run_next_of_serial ha h
    exact ⟨rfl, rfl, List.length_set⟩

end Sys2Proof.Machine
end

section
/-! PROOFS. The devices apart from each other (60_exceptions.md section 6): what an operation leaves alone, and on what it depends. -/

namespace Sys2Proof.Machine

/-- Settles O40: a timer operation has the next state of `Shape.run_next_of_timer`, which keeps the instances, and a serial one that of
`Shape.run_next_of_serial`, which writes one index of them. -/
theorem devicesAreIsolated : Obligations.DevicesAreIsolated := by
  intro ins s t h
  obtain ⟨hparams, hops, hlength⟩ := exec_next_keeps h
  rw [exec_eq_shape] at h
  refine ⟨hparams, hops, hlength, fun hnone => ?_, fun k hk => ?_⟩
  · rw [sci_eq_shape] at hnone
    obtain ⟨-, rfl⟩ := Shape.run_next_of_timer hnone h
    rfl
  · rw [sci_eq_shape] at hk
    obtain ⟨x, -, -, rfl⟩ := Shape.run_next_of_serial hk h
    exact ⟨rfl, fun j hj => List.getElem?_set_ne hj.symm⟩

/-- Settles O41: in the closed form of a serial shape nothing but the instance and the parameters decides the outcome. -/
theorem serialOperationSeesOnlyItsInstance : Obligations.SerialOperationSeesOnlyItsInstance := by
  intro ins k s1 s2 hk hparams hinstance
  rw [sci_eq_shape] at hk
  simp only [exec_eq_shape]
  cases hx : s1.sci[k.val]? with
  | none =>
    rw [Shape.run_of_missing hk (List.getElem?_eq_none_iff.mp hx),
      Shape.run_of_missing hk (List.getElem?_eq_none_iff.mp (hinstance.symm.trans hx))]
    exact ⟨nofun, nofun, fun r h => h⟩
  | some x =>
    have hx2 : s2.sci[k.val]? = some x := hinstance.symm.trans hx
    rw [Shape.run_of_instance hk hx, Shape.run_of_instance hk hx2, ← hparams]
    split
    case isTrue => exact ⟨nofun, fun f h => h, nofun⟩
    case isFalse =>
      refine ⟨fun t1 h => ?_, nofun, nofun⟩
      cases h
      refine ⟨_, _, rfl, ?_, rfl, rfl, rfl⟩
      have hlt1 := (List.getElem?_eq_some_iff.mp hx).1
      have hlt2 := (List.getElem?_eq_some_iff.mp hx2).1
      simp only [List.getElem?_set_self, hlt1, hlt2]

/-- Settles O42: in the closed form of a timer shape nothing but the timer decides the outcome, and it has no refusal. -/
theorem timerOperationSeesOnlyTheTimer : Obligations.TimerOperationSeesOnlyTheTimer := by
  intro ins s1 s2 hnone htimer
  rw [sci_eq_shape] at hnone
  simp only [exec_eq_shape, Shape.run_of_timer hnone, ← htimer]
  split
  case isTrue => exact ⟨nofun, fun f h => h, nofun⟩
  case isFalse =>
    refine ⟨fun t1 h => ?_, nofun, nofun⟩
    cases h
    exact ⟨_, _, rfl, rfl, rfl, rfl, rfl⟩

/-- Settles O37: with its instance missing a serial shape is refused, and with it there the operation is well formed. -/
theorem missingInstanceIsRefused : Obligations.MissingInstanceIsRefused := by
  intro ins s k hk
  refine ⟨fun hlen => ?_, fun hlen => exec_ne_refused_of_wellFormed ((ins.wellFormed_iff _).mpr fun j hj => ?_)⟩
  · rw [exec_eq_shape]
    exact Shape.run_of_missing ((sci_eq_shape ins).symm.trans hk) hlen
  · cases hk.symm.trans hj
    exact hlen

end Sys2Proof.Machine
end

section
/-! PROOFS. What one operation makes of each element of the state, read off the closed forms of the ten shapes: the snapshot, the channels'
registers, an instance's stored cycle, countdown and status, and the trace. -/

namespace Sys2Proof.Machine

/-! ### The timer -/

@[simp] theorem Timer.writeReg_snap (t : Timer) (d : Byte) (r : TmrReg) : (t.writeReg d r).snap = t.snap := by
  cases r <;> rfl

/-- Only a timer tick writes the snapshot (R69). -/
theorem Shape.onTimer_snap (a : Shape) (t : Timer) :
    (a.onTimer t).snap = t.snap ∨ ∃ c, a = .tickTimer c ∧ (a.onTimer t).snap = c := by
  cases a with
  | tickTimer c => exact .inr ⟨c, rfl, rfl⟩
  | writeTimer r d => exact .inl (t.writeReg_snap d r)
  | readOutside | writeOutside | readTimer => exact .inl rfl
  | readSci | writeSci | tickSci | sendSci | pendSci => exact .inl rfl

/-- A write to a timer register changes channel `i` only when the register is one of channel `i`. -/
theorem Timer.writeReg_getElem_ch (t : Timer) (d : Byte) (r : TmrReg) (i : Fin 5) :
    (t.writeReg d r).ch[i] = t.ch[i] ∨ ∃ r', r = .chan i r' ∧ (t.writeReg d r).ch[i] = (t.ch[i]).writeReg d r' := by
  cases r with
  | chan j r' =>
    by_cases hj : j = i
    · subst hj
      exact .inr ⟨r', rfl, t.onChannel_ch_self j (·.writeReg d r')⟩
    · exact .inl (Vector.getElem_set_ne j.isLt i.isLt (Fin.val_ne_of_ne hj))
  | tstr | tsnc | tmdr | tfcr | scratch2C | scratch30 | scratch3C => exact .inl rfl

/-- Of the ten registers of a channel, TSR alone stores into the status (R91). -/
theorem Channel.writeReg_status_of_ne {r : ChanReg} (hr : r ≠ .tsr) (ch : Channel) (d : Byte) : (ch.writeReg d r).status = ch.status := by
  cases r with
  | tsr => exact absurd rfl hr
  | tcr | tior | tier | tcntH | tcntL | graH | graL | grbH | grbL => rfl

/-- A sub-tick clears no status bit (R18). -/
theorem iterate_subtick_status_sticky {b : Nat} (n : Nat) (ch : Channel) (hb : ch.status.getLsbD b = true) :
    (Channel.subtick^[n] ch).status.getLsbD b = true := by
  induction n generalizing ch with
  | zero => exact hb
  | succ n ih => exact ih ch.subtick (by simp [Channel.statusAfter_getLsbD, hb])

/-- A status bit that a shape takes from 1 to 0 was written by a write to its own TSR (R18). -/
theorem Shape.onTimer_status_cleared {a : Shape} {t : Timer} {i : Fin 5} {b : Nat} (hset : (t.ch[i]).status.getLsbD b = true)
    (hclear : ((a.onTimer t).ch[i]).status.getLsbD b = false) :
    ∃ d, a = .writeTimer (.chan i .tsr) d ∧ d.getLsbD b = false := by
  cases a with
  | tickTimer c =>
    have hkept := iterate_subtick_status_sticky (t.subticksDue c i) t.ch[i] hset
    rw [← Timer.channelsAt_getElem] at hkept
    cases hkept.symm.trans hclear
  | writeTimer r d =>
    rw [Shape.onTimer] at hclear
    obtain hsame | ⟨r', rfl, hwritten⟩ := t.writeReg_getElem_ch d r i
    · rw [hsame, hset] at hclear
      cases hclear
    · rw [hwritten] at hclear
      by_cases hr : r' = .tsr
      · subst hr
        exact ⟨d, rfl, hclear⟩
      · rw [Channel.writeReg_status_of_ne hr, hset] at hclear
        cases hclear
  | readOutside | writeOutside | readTimer => cases hset.symm.trans hclear
  | readSci | writeSci | tickSci | sendSci | pendSci => cases hset.symm.trans hclear

/-! ### A serial instance -/

/-- The interrupt offset is never written (R32). -/
theorem Shape.onInstance_o (a : Shape) (p : Params) (x : Sci) : (a.onInstance p x).o = x.o := by
  cases a with
  | writeSci k r d => exact writeReg_o p k d x r
  | tickSci k c => exact sciTick_o p.clockTime c x
  | readSci | sendSci | pendSci => rfl
  | readOutside | writeOutside | readTimer | writeTimer | tickTimer => rfl

/-- Only a tick writes the last-sampled cycle (R111). -/
theorem Shape.onInstance_last (a : Shape) (p : Params) (x : Sci) :
    (a.onInstance p x).last = x.last ∨ ∃ k c, a = .tickSci k c ∧ (a.onInstance p x).last = c := by
  cases a with
  | writeSci k r d => exact .inl (writeReg_last p k d x r)
  | tickSci k c => exact .inr ⟨k, c, rfl, sciTick_last p.clockTime c x⟩
  | readSci | sendSci | pendSci => exact .inl rfl
  | readOutside | writeOutside | readTimer | writeTimer | tickTimer => exact .inl rfl

/-- A write to SCR leaves the countdown at 1, at 0 or as it was (R113). -/
theorem writeScr_txTimer_nonneg {x : Sci} (hx : 0 ≤ x.txTimer) (d : Byte) : 0 ≤ (x.writeScr d).txTimer := by
  unfold Sci.writeScr
  dsimp only
  split_ifs <;> omega

/-- A write to TDR leaves the countdown at the clock time or as it was (R114). -/
theorem writeTdr_txTimer_nonneg {p : Params} (hp : 1 ≤ p.clockTime) {x : Sci} (hx : 0 ≤ x.txTimer) (k : Fin 8) (d : Byte) :
    0 ≤ (x.writeTdr p k d).1.txTimer := by
  unfold Sci.writeTdr
  split
  · exact hx
  · exact le_trans (by decide) hp

/-- A tick leaves the countdown at the clock time, or at what a running one has left, or as it was (R108, R109). -/
theorem sciTick_txTimer_nonneg {clockTime : Int} (hp : 1 ≤ clockTime) {x : Sci} (hx : 0 ≤ x.txTimer) (c : Nat) :
    0 ≤ (x.tick clockTime c).1.txTimer := by
  rw [sciTick_eq]
  dsimp only
  split_ifs <;> omega

/-- No operation makes the countdown negative (R30). -/
theorem Shape.onInstance_txTimer_nonneg {p : Params} (hp : 1 ≤ p.clockTime) {x : Sci} (hx : 0 ≤ x.txTimer) (a : Shape) :
    0 ≤ (a.onInstance p x).txTimer := by
  cases a with
  | writeSci k r d =>
    cases r with
    | scr => exact writeScr_txTimer_nonneg hx d
    | tdr => exact writeTdr_txTimer_nonneg hp hx k d
    | ssr | rdr | raw01 | raw67 => exact hx
  | tickSci k c => exact sciTick_txTimer_nonneg hp hx c
  | readSci | sendSci | pendSci => exact hx
  | readOutside | writeOutside | readTimer | writeTimer | tickTimer => exact hx

/-- Clearing transmit-empty clears bit 7 (R114). -/
theorem clearTransmitEmpty_bit7 (status : Byte) : (clearTransmitEmpty status).getLsbD 7 = false := by
  simp [clearTransmitEmpty]

/-- Setting receive-full keeps bit 7 (R110). -/
theorem setReceiveFull_bit7 (status : Byte) : (setReceiveFull status).getLsbD 7 = status.getLsbD 7 := by
  simp [setReceiveFull]

/-- A tick keeps transmit-empty. -/
theorem sciTick_transmitEmpty (clockTime : Int) (c : Nat) (x : Sci) :
    (x.tick clockTime c).1.status.getLsbD 7 = x.status.getLsbD 7 := by
  rw [sciTick_eq]
  dsimp only
  split
  · exact setReceiveFull_bit7 x.status
  · rfl

/-- What a shape for instance `j` makes of transmit-empty: a write to SSR stores it, a transmission clears it, and nothing else
touches it (R28, R109). -/
theorem Shape.onInstance_transmitEmpty {a : Shape} {j : Fin 8} (ha : a.sci = some j) (p : Params) (x : Sci) :
    (a.onInstance p x).status.getLsbD 7 = x.status.getLsbD 7 ∨
    (∃ d, a = .writeSci j .ssr d ∧ (a.onInstance p x).status = d) ∨
    (∃ d, a = .writeSci j .tdr d ∧ d ≠ p.sentinel ∧ (a.onInstance p x).status.getLsbD 7 = false) := by
  cases a with
  | readOutside | writeOutside | readTimer | writeTimer | tickTimer => cases ha
  | readSci | sendSci | pendSci => exact .inl rfl
  | tickSci k c => exact .inl (sciTick_transmitEmpty p.clockTime c x)
  | writeSci k r d =>
    cases ha
    cases r with
    | ssr => exact .inr (.inl ⟨d, rfl, rfl⟩)
    | scr | rdr | raw01 | raw67 => exact .inl rfl
    | tdr =>
      simp only [Shape.onInstance, Sci.writeReg, Sci.writeTdr]
      split
      case isTrue => exact .inl rfl
      case isFalse hd => exact .inr (.inr ⟨d, rfl, hd, clearTransmitEmpty_bit7 x.status⟩)

/-! ### The trace -/

theorem Event.ofChannel_iff (i : Fin 5) (e : Event) :
    e.ofChannel i = true ↔ ∃ v, e = .irq v ∧ (v = 24 + 4 * i.val ∨ v = 25 + 4 * i.val ∨ v = 26 + 4 * i.val) := by
  cases e <;> simp [Event.ofChannel, or_assoc]

/-- The events of a sub-tick are interrupts of its channel. -/
theorem ofChannel_of_mem_eventsOf {i : Fin 5} {ch : Channel} {e : Event} (he : e ∈ ch.eventsOf i) : e.ofChannel i = true := by
  have hraise : ∀ {hit : Bool} {v : Nat}, e ∈ raiseWhen hit v → e = .irq v := by
    intro hit v hv
    cases hit <;> simp_all [raiseWhen]
  simp only [Channel.eventsOf, List.mem_append] at he
  rw [Event.ofChannel_iff]
  obtain (hA | hB) | hovf := he
  · exact ⟨_, hraise hA, .inl rfl⟩
  · exact ⟨_, hraise hB, .inr (.inl rfl)⟩
  · exact ⟨_, hraise hovf, .inr (.inr rfl)⟩

/-- The events that a tick takes from a channel are interrupts of that channel. -/
theorem ofChannel_of_mem_tickChannel {t : Timer} {c : Nat} {i : Fin 5} {e : Event} (he : e ∈ (t.tickChannel c i).2) :
    e.ofChannel i = true := by
  rw [Timer.tickChannel_eq] at he
  obtain ⟨j, -, hj⟩ := List.mem_flatMap.mp he
  exact ofChannel_of_mem_eventsOf hj

/-- The events of a timer shape are a tick's, and interrupts of some channel. -/
theorem Shape.mem_timerEvents {a : Shape} {t : Timer} {e : Event} (he : e ∈ a.timerEvents t) :
    ∃ c i, a = .tickTimer c ∧ e.ofChannel i = true := by
  cases a with
  | tickTimer c =>
    obtain ⟨i, -, hi⟩ := List.mem_flatMap.mp he
    exact ⟨c, i, rfl, ofChannel_of_mem_tickChannel hi⟩
  | readOutside | writeOutside | readTimer | writeTimer => cases he
  | readSci | writeSci | tickSci | sendSci | pendSci => cases he

/-- A tick of an instance raises the two vectors of that instance and no other (R109, R110). -/
theorem mem_sciTick_events {clockTime : Int} {c : Nat} {x : Sci} {e : Event} (he : e ∈ (x.tick clockTime c).2) :
    ∃ v, e = .irq v ∧ (v = 53 + x.o ∨ v = 54 + x.o) := by
  rw [sciTick_eq] at he
  obtain hsent | hgot := List.mem_append.mp he
  · exact ⟨_, List.mem_singleton.mp (List.mem_ite_nil_right.mp hsent).2, .inr rfl⟩
  · exact ⟨_, List.mem_singleton.mp (List.mem_ite_nil_right.mp hgot).2, .inl rfl⟩

/-- A write to a serial register emits nothing but the byte of a TDR write that is not the sentinel (R114). -/
theorem mem_sciWrite_events {p : Params} {k : Fin 8} {d : Byte} {x : Sci} {r : SciReg} {e : Event} (he : e ∈ (x.writeReg p k d r).2) :
    r = .tdr ∧ d ≠ p.sentinel ∧ e = .tx k d := by
  cases r with
  | scr | ssr | rdr | raw01 | raw67 => cases he
  | tdr =>
    simp only [Sci.writeReg, Sci.writeTdr] at he
    split at he
    case isTrue => cases he
    case isFalse hd => exact ⟨rfl, hd, List.mem_singleton.mp he⟩

/-- Where an event that operation `i` emits in state `s` comes from: a timer tick, a tick of an instance, or the TDR write of a byte
that is not the sentinel (R127, R114). `exec_next_trace` ties it to the operations. -/
def EventSource (s : State) (i : Instr) (e : Event) : Prop :=
  (∃ c j, i = .tickTmr c ∧ e.ofChannel j = true) ∨
  (∃ k c x v, i = .tickSci k c ∧ s.sci[k.val]? = some x ∧ e = .irq v ∧ (v = 53 + x.o ∨ v = 54 + x.o)) ∨
  (∃ k d, i = .wrSciTdr k d ∧ k.val < s.sci.length ∧ d ≠ s.params.sentinel ∧ e = .tx k d)

/-- The events of a serial shape have a source in its operation. -/
theorem Shape.source_of_mem_instanceEvents {a : Shape} {k : Fin 8} {s : State} {x : Sci} {e : Event} (ha : a.sci = some k)
    (hx : s.sci[k.val]? = some x) (he : e ∈ a.instanceEvents s.params x) : EventSource s a.instr e := by
  cases a with
  | readOutside | writeOutside | readTimer | writeTimer | tickTimer => cases ha
  | readSci | sendSci | pendSci => cases he
  | tickSci j c =>
    cases ha
    obtain ⟨v, rfl, hv⟩ := mem_sciTick_events he
    exact .inr (.inl ⟨k, c, x, v, rfl, hx, rfl, hv⟩)
  | writeSci j r d =>
    cases ha
    obtain ⟨rfl, hd, rfl⟩ := mem_sciWrite_events he
    exact .inr (.inr ⟨k, d, rfl, (List.getElem?_eq_some_iff.mp hx).1, hd, rfl⟩)

/-- An operation appends to the trace, and every event it appends has a source. -/
theorem exec_next_trace {i : Instr} {s t : State} (h : exec i s = .next t) :
    ∃ es, t.trace = s.trace ++ es ∧ ∀ e ∈ es, EventSource s i e := by
  rw [exec_eq_shape] at h
  cases ha : (shape i).sci with
  | none =>
    obtain ⟨-, rfl⟩ := Shape.run_next_of_timer ha h
    refine ⟨_, rfl, fun e he => ?_⟩
    obtain ⟨c, j, hc, hj⟩ := Shape.mem_timerEvents he
    exact .inl ⟨c, j, eq_instr_of_shape_eq hc, hj⟩
  | some k =>
    obtain ⟨x, hx, -, rfl⟩ := Shape.run_next_of_serial ha h
    refine ⟨_, rfl, fun e he => ?_⟩
    have hsource := Shape.source_of_mem_instanceEvents ha hx he
    rwa [shape_instr] at hsource

end Sys2Proof.Machine
end

section
/-! PROOFS. The invariants of one operation and of one step (10_state.md, 60_exceptions.md sections 2 and 6). -/

namespace Sys2Proof.Machine

/-- Settles O28: the timer that an operation leaves is `Shape.onTimer`, which clears a status bit in a write to its TSR alone. -/
theorem timerFlagsAreSticky : Obligations.TimerFlagsAreSticky := by
  intro ins s t i b h hset hclear
  rw [exec_next_timer h] at hclear
  obtain ⟨d, hwrite, hd⟩ := Shape.onTimer_status_cleared hset hclear
  exact ⟨d, eq_instr_of_shape_eq hwrite, hd⟩

/-- Settles O29: only `Shape.tickTimer` writes the snapshot; a timer tick iterates the sub-tick, which keeps the configuration of its
channel, and a serial tick keeps the timer. -/
theorem onlyTicksMoveTheTimer : Obligations.OnlyTicksMoveTheTimer := by
  refine ⟨fun ins s t h hmoved => ?_, ?_⟩
  · rw [exec_next_timer h] at hmoved ⊢
    obtain hsame | ⟨c, hc, hsnap⟩ := (shape ins).onTimer_snap s.timer
    · exact absurd hsame hmoved
    · exact ⟨c, eq_instr_of_shape_eq hc, hsnap⟩
  · rintro ins s t (⟨c, rfl⟩ | ⟨k, c, rfl⟩) h
    · rw [exec_next_timer h]
      refine ⟨rfl, rfl, rfl, rfl, rfl, fun i => ?_⟩
      have hkeeps := iterate_subtick_keeps (s.timer.subticksDue c i) s.timer.ch[i]
      rwa [← Timer.channelsAt_getElem] at hkeeps
    · rw [exec_next_timer h]
      exact ⟨rfl, rfl, rfl, rfl, rfl, fun _ => ⟨rfl, rfl, rfl, rfl⟩⟩

/-- Transmit-empty of an instance after an operation: kept, stored by a write to its SSR, or cleared by a transmission. -/
theorem exec_next_transmitEmpty {ins : Instr} {s t : State} (h : exec ins s = .next t) {k : Nat} {x y : Sci}
    (hx : s.sci[k]? = some x) (hy : t.sci[k]? = some y) :
    y.status.getLsbD 7 = x.status.getLsbD 7 ∨
    (∃ j d, j.val = k ∧ ins = .wrSciSsr j d ∧ y.status = d) ∨
    (∃ j d, j.val = k ∧ ins = .wrSciTdr j d ∧ d ≠ s.params.sentinel ∧ y.status.getLsbD 7 = false) := by
  obtain rfl | ⟨j, hj, ha, rfl⟩ := exec_instance h hx hy
  · exact .inl rfl
  · obtain hkept | ⟨d, hd, hstored⟩ | ⟨d, hd, hsent⟩ := Shape.onInstance_transmitEmpty ha s.params x
    · exact .inl hkept
    · exact .inr (.inl ⟨j, d, hj, eq_instr_of_shape_eq hd, hstored⟩)
    · exact .inr (.inr ⟨j, d, hj, eq_instr_of_shape_eq hd, hsent⟩)

/-- Settles O39: in each of the three cases of `exec_next_transmitEmpty`, the bit that changes names the write. -/
theorem onlyStatusWriteSetsTransmitEmpty : Obligations.OnlyStatusWriteSetsTransmitEmpty := by
  intro ins s t k x y h hx hy
  obtain hkept | ⟨j, d, hj, hins, hstored⟩ | ⟨j, d, hj, hins, hsentinel, hcleared⟩ := exec_next_transmitEmpty h hx hy
  · rw [hkept]
    exact ⟨fun h0 h1 => absurd (h0.symm.trans h1) Bool.false_ne_true, fun h1 h0 => absurd (h0.symm.trans h1) Bool.false_ne_true⟩
  · rw [hstored]
    exact ⟨fun _ h1 => ⟨j, d, hj, hins, h1⟩, fun _ h0 => ⟨j, d, hj, .inl ⟨hins, h0⟩⟩⟩
  · rw [hcleared]
    exact ⟨nofun, fun _ _ => ⟨j, d, hj, .inr ⟨hins, hsentinel⟩⟩⟩

/-- Settles O44: the events are those of `exec_next_trace`, whose sources are told apart by the event. -/
theorem interruptsComeFromTicksOfTheirDevice : Obligations.InterruptsComeFromTicksOfTheirDevice := by
  intro ins s t es h hes
  obtain ⟨es', hes', hsource⟩ := exec_next_trace h
  obtain rfl : es = es' := List.append_cancel_left (hes.symm.trans hes')
  refine ⟨fun v hv => ?_, fun k b hb => ?_⟩
  · obtain ⟨c, j, hins, hj⟩ | ⟨k, c, x, w, hins, hx, hw, hvector⟩ | ⟨k, d, -, -, -, htx⟩ := hsource _ hv
    · exact .inl ⟨c, j, hins, hj⟩
    · cases hw
      exact .inr ⟨c, k, x, hins, hx, hvector⟩
    · cases htx
  · obtain ⟨c, j, -, hj⟩ | ⟨k', c, x, w, -, -, hw, -⟩ | ⟨k', d, hins, -, hd, htx⟩ := hsource _ hb
    · obtain ⟨v, hv, -⟩ := (Event.ofChannel_iff j _).mp hj
      cases hv
    · cases hw
    · cases htx
      exact ⟨hins, hd⟩

/-- An event with a source is one that the spec names. -/
theorem EventSource.allowed {s : State} {i : Instr} {e : Event} (h : EventSource s i e) : s.allows e := by
  obtain ⟨c, j, -, hj⟩ | ⟨k, c, x, v, -, hx, rfl, hv⟩ | ⟨k, d, -, hk, hd, rfl⟩ := h
  · obtain ⟨v, rfl, hv⟩ := (Event.ofChannel_iff j e).mp hj
    exact .inl ⟨j, hv⟩
  · exact .inr ⟨x, List.mem_of_getElem? hx, hv⟩
  · exact ⟨hk, hd⟩

/-- A step that answers a next state is idle or performs the operation that the next transaction decodes to. -/
theorem step_next_cases {s t : State} (h : step s = .next t) :
    (s.ops = [] ∧ t = s) ∨
    ∃ tr rest i, s.ops = tr :: rest ∧ decode s.sci.length tr = .ok i ∧ exec i { s with ops := rest } = .next t := by
  cases hops : s.ops with
  | nil => exact .inl ⟨rfl, (Host.Outcome.next.inj ((step_of_ops_nil hops).symm.trans h)).symm⟩
  | cons tr rest =>
    cases hdec : decode s.sci.length tr with
    | error r => cases (step_of_decode_error hops hdec).symm.trans h
    | ok i => exact .inr ⟨tr, rest, i, rfl, hdec, (step_of_decode_ok hops hdec).symm.trans h⟩

/-- Settles O43: an idle step appends nothing, and what an operation appends has a source. -/
theorem eventsAreThoseTheSpecNames : Obligations.EventsAreThoseTheSpecNames := by
  intro s t h
  obtain ⟨-, rfl⟩ | ⟨tr, rest, i, -, -, hexec⟩ := step_next_cases h
  · exact ⟨[], (List.append_nil _).symm, nofun⟩
  · obtain ⟨es, hes, hsource⟩ := exec_next_trace hexec
    exact ⟨es, hes, fun e he => (hsource e he).allowed⟩

/-- A timer shape that is not late does not lower the snapshot. -/
theorem Shape.snap_le_onTimer {a : Shape} {t : Timer} (ha : a.isLate t.snap = false) : t.snap ≤ (a.onTimer t).snap := by
  obtain hsame | ⟨c, rfl, hc⟩ := a.onTimer_snap t
  · exact hsame.ge
  · rw [hc]
    exact not_lt.mp (of_decide_eq_false ha)

/-- A serial shape that is not late does not lower the last-sampled cycle. -/
theorem Shape.last_le_onInstance {a : Shape} {x : Sci} (ha : a.isLate x.last = false) (p : Params) :
    x.last ≤ (a.onInstance p x).last := by
  obtain hsame | ⟨k, c, rfl, hc⟩ := a.onInstance_last p x
  · exact hsame.ge
  · rw [hc]
    exact not_lt.mp (of_decide_eq_false ha)

/-- No operation that answers lowers the snapshot. -/
theorem exec_next_snap_le {i : Instr} {s t : State} (h : exec i s = .next t) : s.timer.snap ≤ t.timer.snap := by
  rw [exec_next_timer h]
  rw [exec_eq_shape] at h
  cases ha : (shape i).sci with
  | none => exact Shape.snap_le_onTimer (Shape.run_next_of_timer ha h).1
  | some k => rw [Shape.onTimer_of_serial ha]

/-- An operation that answers keeps each instance, or makes of one there was what its shape says, and is not late for it. -/
theorem exec_next_mem_sci {i : Instr} {s t : State} (h : exec i s = .next t) {y : Sci} (hy : y ∈ t.sci) :
    y ∈ s.sci ∨ ∃ x ∈ s.sci, (shape i).isLate x.last = false ∧ y = (shape i).onInstance s.params x := by
  rw [exec_eq_shape] at h
  cases ha : (shape i).sci with
  | none =>
    obtain ⟨-, rfl⟩ := Shape.run_next_of_timer ha h
    exact .inl hy
  | some k =>
    obtain ⟨x, hx, hlate, rfl⟩ := Shape.run_next_of_serial ha h
    exact (List.mem_or_eq_of_mem_set hy).imp id fun hy => ⟨x, List.mem_of_getElem? hx, hlate, hy⟩

/-- Settles O49: the instance at index `k` is kept, or is the one the operation is for, which is not late for it. -/
theorem storedCyclesNeverGoBack : Obligations.StoredCyclesNeverGoBack := by
  intro ins s t h
  refine ⟨exec_next_snap_le h, fun k x y hx hy => ?_⟩
  obtain rfl | ⟨j, rfl, ha, rfl⟩ := exec_instance h hx hy
  · exact le_rfl
  · rw [exec_eq_shape] at h
    obtain ⟨x', hx', hlate, -⟩ := Shape.run_next_of_serial ha h
    cases hx.symm.trans hx'
    exact Shape.last_le_onInstance hlate s.params

/-- The interrupt offsets of the instances are those they had. -/
theorem exec_next_offsets {i : Instr} {s t : State} (h : exec i s = .next t) : t.sci.map Sci.o = s.sci.map Sci.o := by
  rw [exec_eq_shape] at h
  cases ha : (shape i).sci with
  | none =>
    obtain ⟨-, rfl⟩ := Shape.run_next_of_timer ha h
    rfl
  | some k =>
    obtain ⟨x, hx, -, rfl⟩ := Shape.run_next_of_serial ha h
    rw [List.map_set, Shape.onInstance_o, ← List.map_set, set_eq_self hx]

/-- An operation keeps a state sound. -/
theorem exec_next_sound {i : Instr} {s t : State} (hs : s.Sound) (h : exec i s = .next t) : t.Sound := by
  obtain ⟨hparams, -, -⟩ := exec_next_keeps h
  obtain ⟨-, -, -, -, -, hclock, -⟩ := hs.legal
  refine ⟨hparams ▸ hs.legal, by rw [exec_next_offsets h, hparams, hs.offsets], fun y hy => ?_,
    by rw [hparams]; exact hs.snap.trans (exec_next_snap_le h), fun y hy => ?_⟩
  · obtain hold | ⟨x, hx, -, rfl⟩ := exec_next_mem_sci h hy
    · exact hs.countdown y hold
    · exact Shape.onInstance_txTimer_nonneg hclock (hs.countdown x hx) (shape i)
  · rw [hparams]
    obtain hold | ⟨x, hx, hlate, rfl⟩ := exec_next_mem_sci h hy
    · exact hs.last y hold
    · exact (hs.last x hx).trans (Shape.last_le_onInstance hlate s.params)

/-- The driver's list is no part of soundness. -/
theorem State.Sound.with_ops {s : State} (hs : s.Sound) (ops : List Transaction) : ({ s with ops := ops } : State).Sound :=
  ⟨hs.legal, hs.offsets, hs.countdown, hs.snap, hs.last⟩

/-- Settles O45: an idle step changes nothing, and every operation keeps a state sound. -/
theorem stepKeepsSoundness : Obligations.StepKeepsSoundness := by
  intro s t hs h
  obtain ⟨-, rfl⟩ | ⟨tr, rest, i, -, -, hexec⟩ := step_next_cases h
  · exact ⟨hs, rfl⟩
  · exact ⟨exec_next_sound (hs.with_ops rest) hexec, (exec_next_keeps hexec).1⟩

end Sys2Proof.Machine
end

section
/-! PROOFS. The driver's duty (70_reset_and_hazards.md R141): a step of a driver that keeps it performs the next operation, and the duty
is kept for the operations that remain. -/

namespace Sys2Proof.Machine

/-- An operation that is no tick, for an instance there is or for none, answers and leaves every stored cycle value. -/
theorem exec_of_not_tick {i : Instr} {s : State} (hi : i.wellFormed s.sci.length = true) (htimer : ∀ c, i ≠ .tickTmr c)
    (hserial : ∀ k c, i ≠ .tickSci k c) :
    ∃ t, exec i s = .next t ∧ t.timer.snap = s.timer.snap ∧ t.sci.map Sci.last = s.sci.map Sci.last := by
  cases h : exec i s with
  | fault f =>
    obtain ⟨c, hc, -⟩ | ⟨k, c, -, hc, -⟩ := (exec_fault_iff ..).mp h
    · exact absurd hc (htimer c)
    · exact absurd hc (hserial k c)
  | refused r => exact absurd h (exec_ne_refused_of_wellFormed hi r)
  | next t =>
    refine ⟨t, rfl, ?_, ?_⟩
    · rw [exec_next_timer h]
      obtain hsame | ⟨c, hc, -⟩ := (shape i).onTimer_snap s.timer
      · exact hsame
      · exact absurd (eq_instr_of_shape_eq hc) (htimer c)
    · rw [exec_eq_shape] at h
      cases ha : (shape i).sci with
      | none => rw [Shape.run_sci_of_timer h ha]
      | some k =>
        obtain ⟨x, hx, -, rfl⟩ := Shape.run_next_of_serial ha h
        obtain hsame | ⟨j, c, hc, -⟩ := (shape i).onInstance_last s.params x
        · rw [List.map_set, hsame, ← List.map_set, set_eq_self hx]
        · exact absurd (eq_instr_of_shape_eq hc) (hserial j c)

/-- The driver keeps its duty at a next transaction: it decodes, the tick that it may be is not late, and the rest keeps the duty from
the stored cycle values that the operation leaves. -/
theorem exec_of_dutifulFrom {s : State} {tr : Transaction} {rest : List Transaction}
    (h : dutifulFrom s.sci.length s.timer.snap (s.sci.map Sci.last) (tr :: rest) = true) :
    ∃ i t, decode s.sci.length tr = .ok i ∧ exec i s = .next t ∧
      dutifulFrom s.sci.length t.timer.snap (t.sci.map Sci.last) rest = true := by
  rw [dutifulFrom] at h
  split at h
  case h_1 => cases h
  case h_2 c hdec =>
    obtain ⟨hc, hrest⟩ := Bool.and_eq_true_iff.mp h
    exact ⟨_, _, hdec, exec_tickTmr_of_le (of_decide_eq_true hc), hrest⟩
  case h_3 k c hdec =>
    obtain ⟨hc, hrest⟩ := Bool.and_eq_true_iff.mp h
    have hk : k.val < s.sci.length := (Instr.wellFormed_iff _ _).mp (decode_wellFormed hdec) k rfl
    have hx : s.sci[k.val]? = some s.sci[k.val] := List.getElem?_eq_getElem hk
    have hlast : (s.sci[k.val]).last ≤ c := by simpa [hk] using hc
    refine ⟨_, _, hdec, exec_tickSci_of_le hx hlast, ?_⟩
    rwa [List.map_set, sciTick_last]
  case h_4 i htimer hserial hdec =>
    obtain ⟨t, hexec, hsnap, hlast⟩ := exec_of_not_tick (decode_wellFormed hdec) htimer hserial
    exact ⟨i, t, hdec, hexec, by rwa [hsnap, hlast]⟩

/-- A step of a dutiful driver performs the next operation, and the driver stays dutiful. -/
theorem step_of_dutiful {s : State} {tr : Transaction} {rest : List Transaction} (hops : s.ops = tr :: rest) (hs : s.dutiful = true) :
    ∃ t, step s = .next t ∧ t.dutiful = true ∧ t.ops = rest := by
  rw [State.dutiful, hops] at hs
  obtain ⟨i, t, hdec, hexec, hduty⟩ := exec_of_dutifulFrom (s := { s with ops := rest }) hs
  obtain ⟨-, hrest, hlength⟩ := exec_next_keeps hexec
  refine ⟨t, (step_of_decode_ok hops hdec).trans hexec, ?_, hrest⟩
  rw [State.dutiful, hlength, hrest]
  exact hduty

/-- A run of one step more: the step, and the run from the state that it answers. -/
theorem run_succ_of_step {s t : State} (h : step s = .next t) (n : Nat) :
    Host.Core.run Sys2Proof.core (n + 1) s = Host.Core.run Sys2Proof.core n t := by
  have hcore : Sys2Proof.core.step s = .next t := h
  simp only [Host.Core.run, hcore]

/-- A run of a dutiful driver answers, and takes as many operations off its list as it has steps. -/
theorem run_of_dutiful (n : Nat) {s : State} (hs : s.dutiful = true) :
    ∃ t, Host.Core.run Sys2Proof.core n s = .next t ∧ t.ops = s.ops.drop n := by
  induction n generalizing s with
  | zero => exact ⟨s, rfl, rfl⟩
  | succ n ih =>
    cases hops : s.ops with
    | nil =>
      obtain ⟨t, hrun, ht⟩ := ih hs
      refine ⟨t, (run_succ_of_step (step_of_ops_nil hops) n).trans hrun, ?_⟩
      rw [ht, hops, List.drop_nil, List.drop_nil]
    | cons tr rest =>
      obtain ⟨u, hstep, hu, hrest⟩ := step_of_dutiful hops hs
      obtain ⟨t, hrun, ht⟩ := ih hu
      exact ⟨t, (run_succ_of_step hstep n).trans hrun, by rw [ht, hrest, List.drop_succ_cons]⟩

/-- Settles O50: every run of a dutiful driver answers, and one of as many steps as there are operations drops them all. -/
theorem dutifulDriverNeverStops : Obligations.DutifulDriverNeverStops := by
  intro s hs
  refine ⟨fun n => ?_, ?_⟩
  · obtain ⟨t, hrun, -⟩ := run_of_dutiful n hs
    exact ⟨t, hrun⟩
  · obtain ⟨t, hrun, ht⟩ := run_of_dutiful s.ops.length hs
    exact ⟨t, hrun, ht.trans List.drop_length⟩

end Sys2Proof.Machine
end

section
/-! PROOFS. The encoder against the decoder (30_encoding.md sections 1 and 3), said once for the ten shapes of an operation. -/

namespace Sys2Proof

/-- The encoding of a timer read: the offset of the register in a word of class 0b00, no operand beside it (R51, R54). -/
theorem TmrReg.encode_readRow (r : TmrReg) : encode r.readRow = { word := 0x080 ||| r.offset.setWidth 10, d := 0, c := 0, bs := [] } := by
  cases r with
  | chan i r => cases r <;> fin_cases i <;> rfl
  | scratch2C j => fin_cases j <;> rfl
  | scratch30 j => fin_cases j <;> rfl
  | scratch3C j => fin_cases j <;> rfl
  | tstr | tsnc | tmdr | tfcr => rfl

/-- The encoding of a timer write: the same with w set, and the data byte beside it. -/
theorem TmrReg.encode_writeRow (r : TmrReg) (d : Byte) :
    encode (r.writeRow d) = { word := 0x0C0 ||| r.offset.setWidth 10, d := d, c := 0, bs := [] } := by
  cases r with
  | chan i r => cases r <;> fin_cases i <;> rfl
  | scratch2C j => fin_cases j <;> rfl
  | scratch30 j => fin_cases j <;> rfl
  | scratch3C j => fin_cases j <;> rfl
  | tstr | tsnc | tmdr | tfcr => rfl

/-- The encoding of a serial read: the instance and the offset in a word of class 0b01 (R52, R54). -/
theorem SciReg.encode_readRow (k : Fin 8) (r : SciReg) :
    encode (r.readRow k) = { word := 0x180 ||| kBits k ||| r.offset.setWidth 10, d := 0, c := 0, bs := [] } := by
  cases r with
  | raw01 j => fin_cases k <;> fin_cases j <;> rfl
  | raw67 j => fin_cases k <;> fin_cases j <;> rfl
  | scr | tdr | ssr | rdr => fin_cases k <;> rfl

/-- The encoding of a serial write: the same with w set, and the data byte beside it. -/
theorem SciReg.encode_writeRow (k : Fin 8) (r : SciReg) (d : Byte) :
    encode (r.writeRow k d) = { word := 0x1C0 ||| kBits k ||| r.offset.setWidth 10, d := d, c := 0, bs := [] } := by
  have hdata : (r.writeRow k d).dataByte = d := by cases r <;> rfl
  have hcycle : (r.writeRow k d).cycle = 0 := by cases r <;> rfl
  have hbytes : (r.writeRow k d).bytes = [] := by cases r <;> rfl
  rw [encode, SciReg.word_writeRow, hdata, hcycle, hbytes]

/-- The word of host operation `op` of instance `k` as a sum. -/
theorem hostWord_eq_or (op : Fin 4) (k : Fin 8) :
    BitVec.ofNat 10 (0x200 + op.val + 8 * k.val) = BitVec.ofNat 10 (0x200 + op.val) ||| kBits k := by
  revert op k
  decide

/-- The fields of the word of a host operation, as the encoder writes it. -/
theorem hostWord_or (op : Fin 4) (k : Fin 8) : HostWord (BitVec.ofNat 10 (0x200 + op.val) ||| kBits k) op.val k :=
  hostWord_eq_or op k ▸ hostWord_ofNat op k

/-- The word of a serial host operation is rejected for an instance that the platform lacks (R57). -/
theorem decode_host_of_missing {w : TWord} {op : Nat} {k : Fin 8} {n : Nat} (hw : HostWord w op k) (hop : op ≠ 0) (hk : n ≤ k.val)
    (d : Byte) (c : Nat) (bs : List Byte) :
    decode n { word := w, d := d, c := c, bs := bs } = .error (.noSuchSci k) := by
  obtain ⟨hclass, h76, h2, rfl, rfl⟩ := hw
  rw [decode_class2 hclass, decodeHost]
  simp only [h76, h2, ne_eq, not_true, if_false, Bool.false_eq_true, not_lt.mpr hk]
  split
  case h_1 h0 => exact absurd h0 hop
  all_goals rfl

/-- The word of host operation 0 with instance field 0 decodes to the timer tick. -/
theorem decode_tickTmr {w : TWord} (hw : HostWord w 0 0) (n : Nat) (d : Byte) (c : Nat) (bs : List Byte) :
    decode n { word := w, d := d, c := c, bs := bs } = .ok (.tickTmr c) := by
  obtain ⟨hclass, h76, h2, hop, hk⟩ := hw
  rw [decode_class2 hclass]
  simp only [decodeHost, h76, h2, hop, hk, Fin.val_zero, if_true, if_false, ne_eq, not_true, Bool.false_eq_true]

/-- The word of host operation 1 decodes to the serial tick, for an instance there is. -/
theorem decode_tickSci {w : TWord} {k : Fin 8} {n : Nat} (hw : HostWord w 1 k) (hk : k.val < n) (d : Byte) (c : Nat) (bs : List Byte) :
    decode n { word := w, d := d, c := c, bs := bs } = .ok (.tickSci k c) := by
  obtain ⟨hclass, h76, h2, hop, rfl⟩ := hw
  rw [decode_class2 hclass]
  simp only [decodeHost, h76, h2, hop, hk, if_true, if_false, ne_eq, not_true, Bool.false_eq_true]

/-- A serial access to an instance that the platform lacks is rejected for it (R57). -/
theorem decode_serial_of_missing {k : Fin 8} {n : Nat} (hk : n ≤ k.val) (off : BitVec 3) (bit6 : Bool) (d : Byte) (c : Nat)
    (bs : List Byte) :
    decode n { word := (if bit6 then 0x1C0 else 0x180) ||| kBits k ||| off.setWidth 10, d := d, c := c, bs := bs } =
      .error (.noSuchSci k) := by
  obtain ⟨hclass, h7, hfield⟩ := serialWord_fields k off bit6
  rw [← classField_toNat] at hclass
  rw [decode_class1 hclass, decodeSerial, h7, hfield, if_neg (by decide), if_pos hk]

namespace Machine

/-- Decoding the encoding of a shape's operation gives the operation back, when the platform has its instance. -/
theorem Shape.decode_encode {a : Shape} {n : Nat} (ha : ∀ k, a.sci = some k → k.val < n) : decode n (encode a.instr) = .ok a.instr := by
  cases a with
  | readOutside => exact decode_outsideRead (w := 0x000) rfl ..
  | writeOutside d => exact decode_outsideWrite (w := 0x040) rfl ..
  | readTimer r => exact (congrArg (decode n) r.encode_readRow).trans (decode_timerRead ..)
  | writeTimer r d => exact (congrArg (decode n) (r.encode_writeRow d)).trans (decode_timerWrite ..)
  | readSci k r => exact (congrArg (decode n) (r.encode_readRow k)).trans (decode_serialRead r (ha k rfl) ..)
  | writeSci k r d => exact (congrArg (decode n) (r.encode_writeRow k d)).trans (decode_serialWrite r (ha k rfl) ..)
  | tickTimer c => exact decode_tickTmr (hostWord_or 0 0) ..
  | tickSci k c => exact decode_tickSci (hostWord_or 1 k) (ha k rfl) ..
  | sendSci k bs => exact decode_send (hostWord_or 2 k) (ha k rfl) ..
  | pendSci k => exact decode_pend (hostWord_or 3 k) (ha k rfl) ..

/-- The encoding of a shape's operation is rejected when the platform lacks its instance. -/
theorem Shape.decode_encode_of_missing {a : Shape} {k : Fin 8} {n : Nat} (ha : a.sci = some k) (hk : n ≤ k.val) :
    decode n (encode a.instr) = .error (.noSuchSci k) := by
  cases a with
  | readOutside | writeOutside | readTimer | writeTimer | tickTimer => cases ha
  | readSci j r =>
    cases ha
    exact (congrArg (decode n) (r.encode_readRow k)).trans (decode_serial_of_missing hk r.offset false ..)
  | writeSci j r d =>
    cases ha
    exact (congrArg (decode n) (r.encode_writeRow k d)).trans (decode_serial_of_missing hk r.offset true ..)
  | tickSci j c =>
    cases ha
    exact decode_host_of_missing (hostWord_or 1 k) (by decide) hk ..
  | sendSci j bs =>
    cases ha
    exact decode_host_of_missing (hostWord_or 2 k) (by decide) hk ..
  | pendSci j =>
    cases ha
    exact decode_host_of_missing (hostWord_or 3 k) (by decide) hk ..

/-- Settles O1: an operation is its shape's, and a well-formed one has its instance. -/
theorem decodeOfEncode : Obligations.DecodeOfEncode := by
  intro n i hi
  rw [← shape_instr i] at hi ⊢
  exact Shape.decode_encode ((Shape.instr_wellFormed_iff ..).mp hi)

/-- The shape of a driver's operation: the window check and the offsets of R35 and R38 taken at its full address. -/
def shapeOfOp (p : Params) : Op → Shape
  | .tmrRead a => if inTimerWindow p a then .readTimer (tmrReg (timerOffset p a)) else .readOutside
  | .tmrWrite a d => if inTimerWindow p a then .writeTimer (tmrReg (timerOffset p a)) d else .writeOutside d
  | .sciRead k a => .readSci k (sciReg (sciOffset a))
  | .sciWrite k a d => .writeSci k (sciReg (sciOffset a)) d
  | .tmrTick c => .tickTimer c
  | .sciTick k c => .tickSci k c
  | .sciSend k bs => .sendSci k bs
  | .sciPend k => .pendSci k

/-- The device contract of an operation is what its shape does. -/
theorem applyOp_eq_shape (op : Op) (s : State) : applyOp op s = (shapeOfOp s.params op).run s := by
  cases op with
  | tmrRead a =>
    simp only [applyOp, shapeOfOp]
    split <;> rfl
  | tmrWrite a d =>
    simp only [applyOp, shapeOfOp]
    split <;> rfl
  | sciRead | sciWrite | tmrTick | sciTick | sciSend | sciPend => rfl

/-- The driver encodes an operation as the encoder does its shape's (R55). -/
theorem Op.encode_eq_shape (op : Op) (p : Params) : op.encode p = encode (shapeOfOp p op).instr := by
  cases op with
  | tmrRead a =>
    simp only [Op.encode, shapeOfOp]
    split
    case isTrue => simp only [Shape.instr, TmrReg.encode_readRow, tmrReg_offset]
    case isFalse => rfl
  | tmrWrite a d =>
    simp only [Op.encode, shapeOfOp]
    split
    case isTrue => simp only [Shape.instr, TmrReg.encode_writeRow, tmrReg_offset]
    case isFalse => rfl
  | sciRead k a => simp only [Op.encode, shapeOfOp, Shape.instr, SciReg.encode_readRow, sciReg_offset]
  | sciWrite k a d => simp only [Op.encode, shapeOfOp, Shape.instr, SciReg.encode_writeRow, sciReg_offset]
  | tmrTick | sciTick | sciSend | sciPend => rfl

/-- A step at the encoding of a shape's operation runs the shape: performed where the platform has its instance, and refused by the
decoder as by the operation itself where it does not. -/
theorem step_of_encode {s : State} {a : Shape} {rest : List Transaction} (hops : s.ops = encode a.instr :: rest) :
    step s = a.run { s with ops := rest } := by
  by_cases hpresent : ∀ k, a.sci = some k → k.val < s.sci.length
  · rw [step_of_decode_ok hops (Shape.decode_encode hpresent), exec_eq_shape, shape_of_instr]
  · push Not at hpresent
    obtain ⟨k, ha, hk⟩ := hpresent
    rw [step_of_decode_error hops (Shape.decode_encode_of_missing ha hk),
      Shape.run_of_missing (s := { s with ops := rest }) ha hk]

/-- Settles O6: the encoding of a driver's operation and its contract both go through its shape. -/
theorem encodedOperationMeetsContract : Obligations.EncodedOperationMeetsContract := by
  intro op s rest hops
  rw [Op.encode_eq_shape] at hops
  rw [step_of_encode hops, applyOp_eq_shape]

end Machine
end Sys2Proof
end

section
/-! PROOFS. The word of a decoded operation (30_encoding.md section 1), class by class: a word is put together again from its fields. -/

namespace Sys2Proof

/-- The numbers of the timer words with h set: the base of the direction plus the offset (R51). -/
theorem timerWord_toNat (off : BitVec 6) :
    (0x080 ||| off.setWidth 10 : TWord).toNat = 0x080 + off.toNat ∧ (0x0C0 ||| off.setWidth 10 : TWord).toNat = 0x0C0 + off.toNat := by
  revert off
  decide

/-- Bits 5:0 of a word with the class and h clear, taken as zero (R51). -/
theorem outsideWord_mask {w : TWord} (hw : w.toNat / 128 = 0) : w &&& 0x3C0 = BitVec.ofNat 10 (w.toNat / 64 * 64) := by
  have hmask : ∀ x : Fin 128, BitVec.ofNat 10 x.val &&& 0x3C0 = BitVec.ofNat 10 (x.val / 64 * 64) := by decide
  simpa using hmask ⟨w.toNat, by omega⟩

theorem TmrReg.word_readRow (r : TmrReg) : r.readRow.word = 0x080 ||| r.offset.setWidth 10 :=
  congrArg Transaction.word r.encode_readRow

theorem SciReg.word_readRow (k : Fin 8) (r : SciReg) : (r.readRow k).word = 0x180 ||| kBits k ||| r.offset.setWidth 10 :=
  congrArg Transaction.word (r.encode_readRow k)

/-- The word of a decoded timer access: bits 5:0 are ignored outside the window, and are the offset inside it (R51). -/
theorem decodeTimer_word {w : TWord} (hclass : w.toNat / 256 = 0) (d : Byte) :
    (decodeTimer w d).word = if w.toNat / 128 = 0 then w &&& 0x3C0 else w := by
  have hoff := field_toNat w 0 6
  obtain ⟨hread, hwrite⟩ := timerWord_toNat (w.extractLsb' 0 6)
  unfold decodeTimer
  split <;> rename_i h7 h6 <;> rw [getLsbD_eq_decide] at h7 h6
  case h_1 =>
    have h7' := of_decide_eq_false h7
    have h6' := of_decide_eq_false h6
    rw [if_pos (by omega), outsideWord_mask (by omega), show w.toNat / 64 = 0 by omega]
    rfl
  case h_2 =>
    have h7' := of_decide_eq_false h7
    have h6' := of_decide_eq_true h6
    rw [if_pos (by omega), outsideWord_mask (by omega), show w.toNat / 64 = 1 by omega]
    rfl
  case h_3 =>
    have h7' := of_decide_eq_true h7
    have h6' := of_decide_eq_false h6
    rw [if_neg (by omega), TmrReg.word_readRow, tmrReg_offset]
    exact BitVec.eq_of_toNat_eq (by omega)
  case h_4 =>
    have h7' := of_decide_eq_true h7
    have h6' := of_decide_eq_true h6
    rw [if_neg (by omega), TmrReg.word_writeRow, tmrReg_offset]
    exact BitVec.eq_of_toNat_eq (by omega)

/-- A serial word with bit 7 set is put together from its direction, instance and offset (R52). -/
theorem serialWord_of_fields {w : TWord} (hclass : w.toNat / 256 = 1) (h7 : w.getLsbD 7 = true) :
    (w.getLsbD 6 = false → 0x180 ||| kBits (kField w) ||| (w.extractLsb' 0 3).setWidth 10 = w) ∧
    (w.getLsbD 6 = true → 0x1C0 ||| kBits (kField w) ||| (w.extractLsb' 0 3).setWidth 10 = w) := by
  have hoff := field_toNat w 0 3
  obtain ⟨hread, hwrite⟩ := serialWord_eq_or (kField w) (w.extractLsb' 0 3)
  rw [← hread, ← hwrite, kField_val]
  rw [getLsbD_eq_decide] at h7 ⊢
  have h7' := of_decide_eq_true h7
  refine ⟨fun h6 => ?_, fun h6 => ?_⟩
  · have h6' := of_decide_eq_false h6
    exact BitVec.eq_of_toNat_eq (by rw [BitVec.toNat_ofNat]; omega)
  · have h6' := of_decide_eq_true h6
    exact BitVec.eq_of_toNat_eq (by rw [BitVec.toNat_ofNat]; omega)

/-- The word of a decoded serial access is the transaction's. -/
theorem decodeSerial_word {n : Nat} {w : TWord} {d : Byte} {i : Instr} (hclass : w.toNat / 256 = 1)
    (h : decodeSerial n w d = .ok i) : i.word = w := by
  unfold decodeSerial at h
  split_ifs at h with h7 hk h6 <;> cases h
  · rw [SciReg.word_writeRow, sciReg_offset]
    exact (serialWord_of_fields hclass (Bool.not_eq_false _ ▸ h7)).2 h6
  · rw [SciReg.word_readRow, sciReg_offset]
    exact (serialWord_of_fields hclass (Bool.not_eq_false _ ▸ h7)).1 (Bool.eq_false_iff.mpr h6)

/-- A host word with bits 7:6 and bit 2 clear is put together from its operation and instance (R53). -/
theorem hostWord_of_fields {w : TWord} (hclass : w.toNat / 256 = 2) (h76 : w.extractLsb' 6 2 = 0) (h2 : w.getLsbD 2 = false) :
    BitVec.ofNat 10 (0x200 + (w.extractLsb' 0 2).toNat) ||| kBits (kField w) = w := by
  have hop := field_toNat w 0 2
  have hsum := hostWord_eq_or ⟨(w.extractLsb' 0 2).toNat, (w.extractLsb' 0 2).isLt⟩ (kField w)
  have h76' : ¬w.toNat / 64 % 4 ≠ 0 := mt (hostField_ne_zero_iff w).mpr (not_not_intro h76)
  rw [getLsbD_eq_decide] at h2
  have h2' := of_decide_eq_false h2
  rw [← hsum]
  refine BitVec.eq_of_toNat_eq ?_
  rw [BitVec.toNat_ofNat, kField_val]
  dsimp only
  omega

/-- The word of a decoded host operation is the transaction's. -/
theorem decodeHost_word {n : Nat} {t : Transaction} {i : Instr} (hclass : t.word.toNat / 256 = 2) (h : decodeHost n t = .ok i) :
    i.word = t.word := by
  unfold decodeHost at h
  dsimp only at h
  split at h
  case isTrue => cases h
  case isFalse h76 =>
    split at h
    case isTrue => cases h
    case isFalse h2 =>
      have hword := hostWord_of_fields hclass (not_not.mp h76) (Bool.eq_false_iff.mpr h2)
      split at h <;> obtain ⟨hk, rfl⟩ := (Machine.ite_ok_eq_ok_iff ..).mp h
      case h_1 hop =>
        rw [hop, show kField t.word = 0 from Fin.ext hk] at hword
        exact hword
      case h_2 hop => rwa [hop] at hword
      case h_3 hop => rwa [hop] at hword
      case h_4 hop0 hop1 hop2 =>
        have hne : ¬(t.word.extractLsb' 0 2).toNat = 0 ∧ ¬(t.word.extractLsb' 0 2).toNat = 1 ∧
          ¬(t.word.extractLsb' 0 2).toNat = 2 := ⟨hop0, hop1, hop2⟩
        have hop : (t.word.extractLsb' 0 2).toNat = 3 := by omega
        rwa [hop] at hword

/-- Settles O2: a decoded operation is well formed, and in each class its word is put together from the fields it was decoded from. -/
theorem encodeOfDecode : Obligations.EncodeOfDecode := by
  rintro n ⟨w, d, c, bs⟩ i h
  refine ⟨Machine.decode_wellFormed h, ?_⟩
  have hfield := classField_toNat w
  have hclass : w.toNat / 256 = 0 ∨ w.toNat / 256 = 1 ∨ w.toNat / 256 = 2 ∨ w.toNat / 256 = 3 := by omega
  obtain hc | hc | hc | hc := hclass
  · rw [decode_class0 (hfield.trans hc)] at h
    cases h
    exact decodeTimer_word hc d
  · rw [decode_class1 (hfield.trans hc)] at h
    rw [if_neg (by dsimp only; omega)]
    exact decodeSerial_word hc h
  · rw [decode_class2 (hfield.trans hc)] at h
    rw [if_neg (by dsimp only; omega)]
    exact decodeHost_word hc h
  · rw [decode_class3 (hfield.trans hc)] at h
    cases h

end Sys2Proof
end

section
/-! PROOFS. Bus accesses at their full addresses (20_memory.md sections 1 to 3): routing, the byte behind an address, and WR16. -/

namespace Sys2Proof.Machine

/-- A step at the encoding of a driver's operation runs the operation's shape. -/
theorem step_of_op {s : State} {op : Op} {rest : List Transaction} (hops : s.ops = op.encode s.params :: rest) :
    step s = (shapeOfOp s.params op).run { s with ops := rest } :=
  step_of_encode (by rw [hops, Op.encode_eq_shape])

theorem route_eq_timer_iff (p : Params) (a : Addr) : route p a = .timer ↔ inTimerWindow p a = true := by
  unfold route
  split
  case isTrue h => exact iff_of_true rfl h
  case isFalse h =>
    refine iff_of_false ?_ h
    split <;> nofun

/-- An address that is routed to a serial instance is in the window of one that was constructed (R40). -/
theorem lt_of_route_eq_sci {p : Params} {a : Addr} {k : Fin 8} (h : route p a = .sci k) : k.val < p.sci.length := by
  unfold route at h
  split at h
  case isTrue => cases h
  case isFalse =>
    split at h <;> cases h
    case h_1 hfind =>
      have hwindow := List.find?_some hfind
      by_contra hk
      simp [inSciWindow, List.getElem?_eq_none_iff.mpr (not_lt.mp hk)] at hwindow

/-- A sound state has one instance per construction entry. -/
theorem State.Sound.length_sci {s : State} (hs : s.Sound) : s.sci.length = s.params.sci.length := by
  simpa using congrArg List.length hs.offsets

/-- Settles O7: a routed read is the read of the register that `byteAt` reads, of the timer or of an instance there is. -/
theorem busReadReturnsByteAt : Obligations.BusReadReturnsByteAt := by
  intro s a op rest hs hop hops
  rw [step_of_op hops]
  cases hroute : route s.params a with
  | timer =>
    simp only [memReadOp, hroute, Option.some.injEq] at hop
    subst hop
    have hwindow := (route_eq_timer_iff ..).mp hroute
    refine ⟨s.timer.readReg (tmrReg (timerOffset s.params a)), by simp only [State.byteAt, hroute], ?_⟩
    rw [shapeOfOp, if_pos hwindow]
    rfl
  | sci k =>
    simp only [memReadOp, hroute, Option.some.injEq] at hop
    subst hop
    have hk : k.val < s.sci.length := hs.length_sci ▸ lt_of_route_eq_sci hroute
    have hx : s.sci[k.val]? = some s.sci[k.val] := List.getElem?_eq_getElem hk
    refine ⟨(s.sci[k.val]).readReg (sciReg (sciOffset a)), by simp only [State.byteAt, hroute, hx], ?_⟩
    exact (askSci_next ..).mpr ⟨_, hx, rfl⟩
  | fallback => simp [memReadOp, hroute] at hop

/-- The offset of an address in the window as a number (R35). -/
theorem timerOffset_toNat {p : Params} {a : Addr} (ha : inTimerWindow p a = true) :
    p.tmrBase.toNat ≤ a.toNat ∧ (timerOffset p a).toNat = a.toNat - p.tmrBase.toNat := by
  simp only [inTimerWindow, Bool.and_eq_true, decide_eq_true_eq] at ha
  refine ⟨ha.1, ?_⟩
  rw [timerOffset, BitVec.toNat_ofNat]
  omega

/-- Two addresses in the window that select one register are one address. -/
theorem eq_of_tmrReg_timerOffset_eq {p : Params} {a b : Addr} (ha : inTimerWindow p a = true) (hb : inTimerWindow p b = true)
    (h : tmrReg (timerOffset p b) = tmrReg (timerOffset p a)) : b = a := by
  have hoffset := congrArg TmrReg.offset h
  rw [tmrReg_offset, tmrReg_offset, ← BitVec.toNat_inj] at hoffset
  obtain ⟨hlea, hoffa⟩ := timerOffset_toNat ha
  obtain ⟨hleb, hoffb⟩ := timerOffset_toNat hb
  exact BitVec.eq_of_toNat_eq (by omega)

/-- The offsets that select a TIOR are one in each channel's block (R36). -/
theorem tmrReg_eq_tior_iff (off : BitVec 6) :
    (∃ i, tmrReg off = .chan i .tior) ↔ off.toNat ∈ [0x05, 0x0F, 0x19, 0x23, 0x33] := by
  revert off
  decide

/-- A timer register reads back what was written to it; TIOR reads 0x00. -/
theorem Timer.readReg_writeReg_self (t : Timer) (d : Byte) (r : TmrReg) :
    (t.writeReg d r).readReg r = if ∃ i, r = .chan i .tior then 0x00 else d := by
  cases r with
  | chan i r =>
    have hread : (t.writeReg d (.chan i r)).readReg (.chan i r) = ((t.ch[i]).writeReg d r).readReg r :=
      congrArg (·.readReg r) (t.onChannel_ch_self i (·.writeReg d r))
    rw [hread, Channel.readReg_writeReg_self]
    simp
  | scratch2C | scratch30 | scratch3C => simp [Timer.readReg, Timer.writeReg]
  | tstr | tsnc | tmdr | tfcr => simp [Timer.readReg, Timer.writeReg]

/-- The index of the scratch region that a scratch register stands at (R37). `Timer.readReg_scratch` and `Timer.writeReg_scratch` tie
it to the registers. -/
def scratchIndex? : TmrReg → Option (Fin 64)
  | .scratch2C j => some (scratch2CIndex j)
  | .scratch30 j => some (scratch30Index j)
  | .scratch3C j => some (scratch3CIndex j)
  | .tstr | .tsnc | .tmdr | .tfcr | .chan _ _ => none

theorem Timer.readReg_scratch {r : TmrReg} {n : Fin 64} (hr : scratchIndex? r = some n) (t : Timer) : t.readReg r = t.scratch[n] := by
  cases r <;> cases hr <;> rfl

theorem Timer.writeReg_scratch {r : TmrReg} {n : Fin 64} (hr : scratchIndex? r = some n) (t : Timer) (d : Byte) :
    t.writeReg d r = { t with scratch := t.scratch.set n d } := by
  cases r <;> cases hr <;> rfl

/-- A scratch register is the one at its index. -/
theorem eq_of_scratchIndex {r r' : TmrReg} {n : Fin 64} (hr : scratchIndex? r = some n) (hr' : scratchIndex? r' = some n) : r' = r := by
  have hoffset : ∀ {r : TmrReg}, scratchIndex? r = some n → r.offset = BitVec.ofNat 6 n.val := by
    intro r hr
    cases r <;> cases hr <;> rfl
  rw [← offset_tmrReg r, ← offset_tmrReg r', hoffset hr, hoffset hr']

/-- A write to a scratch register leaves what every other register reads. -/
theorem Timer.readReg_writeReg_scratch_of_ne {r r' : TmrReg} {n : Fin 64} (hr : scratchIndex? r = some n) (h : r' ≠ r) (t : Timer)
    (d : Byte) : (t.writeReg d r).readReg r' = t.readReg r' := by
  rw [Timer.writeReg_scratch hr]
  cases hr' : scratchIndex? r' with
  | none =>
    cases r' with
    | tstr | tsnc | tmdr | tfcr | chan => rfl
    | scratch2C | scratch30 | scratch3C => cases hr'
  | some m =>
    have hne : n.val ≠ m.val := fun hnm => h (eq_of_scratchIndex hr (Fin.ext hnm ▸ hr'))
    rw [Timer.readReg_scratch hr', Timer.readReg_scratch hr']
    exact Vector.getElem_set_ne n.isLt m.isLt hne

/-- A write to a channel register leaves what every other register reads. -/
theorem Timer.readReg_writeReg_chan_of_ne {i : Fin 5} {c : ChanReg} {r' : TmrReg} (h : r' ≠ .chan i c) (t : Timer) (d : Byte) :
    (t.writeReg d (.chan i c)).readReg r' = t.readReg r' := by
  cases r' with
  | tstr | tsnc | tmdr | tfcr | scratch2C | scratch30 | scratch3C => rfl
  | chan j c' =>
    obtain hsame | ⟨c₀, hreg, hwritten⟩ := t.writeReg_getElem_ch d (.chan i c) j
    · exact congrArg (·.readReg c') hsame
    · cases hreg
      have hne : c' ≠ c := fun hc => h (hc ▸ rfl)
      exact (congrArg (·.readReg c') hwritten).trans (Channel.readReg_writeReg_of_ne _ d c c' hne)

/-- A write to one timer register leaves what every other one reads. -/
theorem Timer.readReg_writeReg_of_ne {r r' : TmrReg} (h : r' ≠ r) (t : Timer) (d : Byte) :
    (t.writeReg d r).readReg r' = t.readReg r' := by
  cases r with
  | chan i c => exact Timer.readReg_writeReg_chan_of_ne h t d
  | scratch2C | scratch30 | scratch3C => exact Timer.readReg_writeReg_scratch_of_ne rfl h t d
  | tstr =>
    cases r' with
    | tstr => exact absurd rfl h
    | _ => rfl
  | tsnc =>
    cases r' with
    | tsnc => exact absurd rfl h
    | _ => rfl
  | tmdr =>
    cases r' with
    | tmdr => exact absurd rfl h
    | _ => rfl
  | tfcr =>
    cases r' with
    | tfcr => exact absurd rfl h
    | _ => rfl

/-- The byte at an address in the window is that of the register its offset selects. -/
theorem State.byteAt_of_inTimerWindow {s : State} {p : Params} {a : Addr} (ha : inTimerWindow p a = true) (hp : s.params = p) :
    s.byteAt a = some (s.timer.readReg (tmrReg (timerOffset p a))) := by
  subst hp
  simp only [State.byteAt, (route_eq_timer_iff ..).mpr ha]

/-- The byte at an address outside the window does not depend on the timer. -/
theorem State.byteAt_of_not_inTimerWindow {s t : State} {a : Addr} (ha : ¬inTimerWindow s.params a = true) (hparams : t.params = s.params)
    (hsci : t.sci = s.sci) : t.byteAt a = s.byteAt a := by
  unfold State.byteAt
  rw [hparams, hsci]
  split
  case h_1 hroute => exact absurd ((route_eq_timer_iff ..).mp hroute) ha
  all_goals rfl

/-- A step at the encoding of a write in the window stores into the register that the address selects. -/
theorem step_of_tmrWrite {s : State} {a : Addr} {d : Byte} {rest : List Transaction} (ha : inTimerWindow s.params a = true)
    (hops : s.ops = (Op.tmrWrite a d).encode s.params :: rest) :
    step s = .next { s with
      timer := s.timer.writeReg d (tmrReg (timerOffset s.params a)), returned := .none, ops := rest } := by
  rw [step_of_op hops, shapeOfOp, if_pos ha]
  rfl

/-- Settles O8: the write stores into the register of its own address; another address in the window selects another register, and an
address outside it reads no timer register. -/
theorem timerWriteChangesOneByte : Obligations.TimerWriteChangesOneByte := by
  intro s a d rest ha hops
  refine ⟨_, step_of_tmrWrite ha hops, ?_, fun b hb => ?_, rfl, rfl, Timer.writeReg_snap .., rfl, rfl⟩
  · refine (State.byteAt_of_inTimerWindow ha (by rfl)).trans (congrArg some ((Timer.readReg_writeReg_self ..).trans ?_))
    rw [← (timerOffset_toNat ha).2]
    exact if_congr (tmrReg_eq_tior_iff _) rfl rfl
  · by_cases hwindow : inTimerWindow s.params b = true
    · have hne := mt (eq_of_tmrReg_timerOffset_eq ha hwindow) hb
      rw [State.byteAt_of_inTimerWindow (s := s) hwindow rfl]
      exact (State.byteAt_of_inTimerWindow hwindow (by rfl)).trans (congrArg some (Timer.readReg_writeReg_of_ne hne s.timer d))
    · exact State.byteAt_of_not_inTimerWindow hwindow rfl rfl

/-- The address of a register under a base that R6 admits: in the window, at the register's offset. -/
theorem window_and_offset_of_address {p : Params} (hbase : p.tmrBase.toNat ≤ 0xFFFFFFC0) (r : TmrReg) :
    inTimerWindow p (r.address p) = true ∧ timerOffset p (r.address p) = r.offset := by
  have hoffset := r.offset.isLt
  have haddress : (r.address p).toNat = p.tmrBase.toNat + r.offset.toNat := by
    rw [TmrReg.address, BitVec.toNat_add, BitVec.toNat_setWidth]
    omega
  refine ⟨?_, ?_⟩
  · rw [inTimerWindow, haddress, Bool.and_eq_true, decide_eq_true_eq, decide_eq_true_eq]
    omega
  · rw [timerOffset, haddress, Nat.add_sub_cancel_left, BitVec.ofNat_toNat, BitVec.setWidth_eq]

/-- A step at the encoding of a write at a register's address stores into that register. -/
theorem step_of_tmrWrite_address {s : State} (hbase : s.params.tmrBase.toNat ≤ 0xFFFFFFC0) {r : TmrReg} {d : Byte}
    {rest : List Transaction} (hops : s.ops = (Op.tmrWrite (r.address s.params) d).encode s.params :: rest) :
    step s = .next { s with timer := s.timer.writeReg d r, returned := .none, ops := rest } := by
  obtain ⟨hwindow, hoffset⟩ := window_and_offset_of_address hbase r
  rw [step_of_tmrWrite hwindow hops, hoffset, offset_tmrReg]

/-- A 16-bit value is its high byte before its low byte (R42). -/
theorem hiByte_append_loByte (v : Half) : (hiByte v ++ loByte v : BitVec 16) = v := by
  apply BitVec.eq_of_toNat_eq
  rw [append_toNat, hiByte_eq, loByte_eq, BitVec.toNat_ofNat, BitVec.toNat_ofNat]
  omega

/-- Settles O51: the two operations are byte writes to the halves of the register, which are one store of the value (R43). -/
theorem writeSixteenExpansionWritesTheRegister : Obligations.WriteSixteenExpansionWritesTheRegister := by
  intro s r i v rest hbase hops
  have hhigh := step_of_tmrWrite_address hbase (r := .chan i r.high) (d := hiByte v) hops
  have hlow := step_of_tmrWrite_address (r := .chan i r.low) (d := loByte v) (rest := rest)
    (s := { s with
      timer := s.timer.writeReg (hiByte v) (.chan i r.high), returned := .none
      ops := (Op.tmrWrite ((TmrReg.chan i r.low).address s.params) (loByte v)).encode s.params :: rest }) hbase rfl
  refine ⟨_, (run_succ_of_step hhigh 1).trans (run_succ_of_step hlow 0), rfl, rfl, rfl, rfl, ?_⟩
  refine (s.timer.onChannel_high_then_low i (hiByte v) (loByte v) r).trans ?_
  rw [hiByte_append_loByte]
  cases r <;> rfl

end Sys2Proof.Machine
end

section
/-! PROOFS. What follows from the timer tick as an iteration of the sub-tick (40_timer_tick.md): ticks compose, the counter runs free or
with the period of its compare register, and the events of one channel are told from those of the others. -/

namespace Sys2Proof.Machine

/-! ### Sub-ticks in a row -/

/-- A tick takes a channel through its sub-ticks due. -/
theorem Timer.tickChannel_eq_subticks (t : Timer) (c : Nat) (i : Fin 5) :
    t.tickChannel c i = Channel.subticks i (t.subticksDue c i) t.ch[i] := by
  rw [Timer.tickChannel_eq, subticks_eq]

theorem subticks_fst (i : Fin 5) (n : Nat) (ch : Channel) : (Channel.subticks i n ch).1 = Channel.subtick^[n] ch := by
  rw [subticks_eq]

/-- Sub-ticks in a row: `n` after `m`, and the events of the `m` first. -/
theorem subticks_add (i : Fin 5) (m n : Nat) (ch : Channel) :
    Channel.subticks i (m + n) ch =
      ((Channel.subticks i n (Channel.subtick^[m] ch)).1,
       (Channel.subticks i m ch).2 ++ (Channel.subticks i n (Channel.subtick^[m] ch)).2) := by
  induction m generalizing ch with
  | zero => rw [Nat.zero_add]; rfl
  | succ m ih => rw [Nat.succ_add, Channel.subticks, ih, Channel.subticks, List.append_assoc, Function.iterate_succ_apply]

/-- The events of one sub-tick more, at the end. -/
theorem subticks_succ_events (i : Fin 5) (n : Nat) (ch : Channel) :
    (Channel.subticks i (n + 1) ch).2 = (Channel.subticks i n ch).2 ++ (Channel.subtick^[n] ch).eventsOf i := by
  rw [subticks_add]
  exact congrArg _ (List.append_nil _)

/-! ### The counter -/

/-- Without a clear pattern the counter goes up by one a sub-tick, modulo 65536 (R68, R72). -/
theorem iterate_subtick_counter_free (n : Nat) {ch : Channel} (hmode : ch.control.toNat / 32 % 4 = 0 ∨ ch.control.toNat / 32 % 4 = 3) :
    (Channel.subtick^[n] ch).counter.toNat = (ch.counter.toNat + n) % 65536 := by
  induction n generalizing ch with
  | zero => exact (Nat.mod_eq_of_lt ch.counter.isLt).symm
  | succ n ih =>
    rw [Function.iterate_succ_apply, ih (ch := ch.subtick) hmode, Channel.subtick_counter, Channel.nextCounter_toNat, if_neg (by omega)]
    omega

/-- From 0 the counter counts the sub-ticks up to compareA, unless a smaller compareB clears it on the way (R68). -/
theorem iterate_subtick_counter_up {ch : Channel} (hzero : ch.counter = 0)
    (hB : ch.control.toNat / 32 % 4 = 2 → ch.compareA.toNat ≤ ch.compareB.toNat) {n : Nat} (hn : n ≤ ch.compareA.toNat) :
    (Channel.subtick^[n] ch).counter.toNat = n := by
  induction n with
  | zero => exact congrArg BitVec.toNat hzero
  | succ n ih =>
    have hcounter := ih (by omega)
    have hA16 := ch.compareA.isLt
    obtain ⟨hcontrol, -, hcompareA, hcompareB⟩ := iterate_subtick_keeps n ch
    have hnoclear : ¬(((Channel.subtick^[n] ch).counter = ch.compareA ∧ ch.control.toNat / 32 % 4 = 1) ∨
        ((Channel.subtick^[n] ch).counter = ch.compareB ∧ ch.control.toNat / 32 % 4 = 2)) := by
      rw [← BitVec.toNat_inj, ← BitVec.toNat_inj, hcounter]
      omega
    rw [Function.iterate_succ_apply', Channel.subtick_counter, Channel.nextCounter_toNat, hcontrol, hcompareA, hcompareB,
      if_neg hnoclear, hcounter]
    omega

/-- On the way up no sub-tick before the one at compareA is a match with A. -/
theorem counter_ne_compareA_of_lt {ch : Channel} (hzero : ch.counter = 0)
    (hB : ch.control.toNat / 32 % 4 = 2 → ch.compareA.toNat ≤ ch.compareB.toNat) {n : Nat} (hn : n < ch.compareA.toNat) :
    (Channel.subtick^[n] ch).counter ≠ (Channel.subtick^[n] ch).compareA := by
  obtain ⟨-, -, hcompareA, -⟩ := iterate_subtick_keeps n ch
  rw [hcompareA, ← BitVec.toNat_ne_iff_ne, iterate_subtick_counter_up hzero hB hn.le]
  exact hn.ne

/-- The sub-tick at compareA is a match with A. -/
theorem counter_eq_compareA {ch : Channel} (hzero : ch.counter = 0)
    (hB : ch.control.toNat / 32 % 4 = 2 → ch.compareA.toNat ≤ ch.compareB.toNat) :
    (Channel.subtick^[ch.compareA.toNat] ch).counter = (Channel.subtick^[ch.compareA.toNat] ch).compareA := by
  obtain ⟨-, -, hcompareA, -⟩ := iterate_subtick_keeps ch.compareA.toNat ch
  rw [hcompareA, ← BitVec.toNat_inj, iterate_subtick_counter_up hzero hB le_rfl]

/-! ### The events of a channel -/

/-- The interrupt of A is among the events of a sub-tick once on an enabled match with A, and else not (R65). -/
theorem count_irqA_eventsOf (i : Fin 5) (ch : Channel) :
    (ch.eventsOf i).count (.irq (24 + 4 * i.val)) = if ch.counter = ch.compareA ∧ ch.ie.getLsbD 0 = true then 1 else 0 := by
  have hvectors : ∀ v, v ≠ 24 + 4 * i.val → ∀ p : Prop, [Decidable p] →
      (if p then [Event.irq v] else []).count (.irq (24 + 4 * i.val)) = 0 := by
    intro v hv p _
    split
    · simp [hv]
    · rfl
  rw [Channel.eventsOf_eq, List.count_append, List.count_append, hvectors (25 + 4 * i.val) (by omega),
    hvectors (26 + 4 * i.val) (by omega)]
  split
  · simp
  · rfl

/-- With only A's enable bit set, a sub-tick raises the interrupt of A on a match with A and nothing else (R65 to R67). -/
theorem eventsOf_of_only_A {ch : Channel} (hie : ch.ie.toNat % 8 = 1) (i : Fin 5) :
    ch.eventsOf i = if ch.counter = ch.compareA then [.irq (24 + 4 * i.val)] else [] := by
  have hbit : ∀ b, ch.ie.getLsbD b = decide (ch.ie.toNat / 2 ^ b % 2 = 1) := fun b => Nat.testBit_eq_decide_div_mod_eq
  have h0 : ch.ie.getLsbD 0 = true := (hbit 0).trans (decide_eq_true (by omega))
  have h1 : ch.ie.getLsbD 1 = false := (hbit 1).trans (decide_eq_false (by omega))
  have h2 : ch.ie.getLsbD 2 = false := (hbit 2).trans (decide_eq_false (by omega))
  simp only [Channel.eventsOf_eq, h0, h1, h2, and_true, Bool.false_eq_true, and_false, if_false, List.append_nil]

/-- An event is of one channel only. -/
theorem eq_of_ofChannel {i j : Fin 5} {e : Event} (hi : e.ofChannel i = true) (hj : e.ofChannel j = true) : i = j := by
  obtain ⟨v, rfl, hv⟩ := (Event.ofChannel_iff i e).mp hi
  obtain ⟨w, hw, hw'⟩ := (Event.ofChannel_iff j _).mp hj
  cases hw
  exact Fin.ext (by omega)

/-- The events of channel `i` among those of channel `j` in a tick: all of them or none. -/
theorem filter_tickChannel (t : Timer) (c : Nat) (i j : Fin 5) :
    (t.tickChannel c j).2.filter (Event.ofChannel i) = if j = i then (t.tickChannel c i).2 else [] := by
  split
  case isTrue hji =>
    subst hji
    exact List.filter_eq_self.mpr fun e he => ofChannel_of_mem_tickChannel he
  case isFalse hji =>
    exact List.filter_eq_nil_iff.mpr fun e he hi => hji (eq_of_ofChannel (ofChannel_of_mem_tickChannel he) hi)

/-- The events of channel `i` in a whole tick are those of its own sub-ticks. -/
theorem filter_tickEvents (t : Timer) (c : Nat) (i : Fin 5) :
    (channelOrder.flatMap fun j => (t.tickChannel c j).2).filter (Event.ofChannel i) = (t.tickChannel c i).2 := by
  simp only [List.filter_flatMap, filter_tickChannel, channelOrder]
  fin_cases i <;> simp

/-! ### Ticks in a row -/

/-- The timer after a tick at `c` that is not below the snapshot. `exec_tickTmr_eq` ties it to the operation. -/
def Timer.tickedAt (t : Timer) (c : Nat) : Timer := { t with ch := t.channelsAt c, snap := c }

theorem exec_tickTmr_eq {c : Nat} {s : State} (h : s.timer.snap ≤ c) :
    exec (.tickTmr c) s = .next { s with
      timer := s.timer.tickedAt c
      trace := s.trace ++ channelOrder.flatMap fun i => (s.timer.tickChannel c i).2
      returned := .none } :=
  exec_tickTmr_of_le h

theorem Timer.tickedAt_getElem (t : Timer) (c : Nat) (i : Fin 5) : (t.tickedAt c).ch[i] = Channel.subtick^[t.subticksDue c i] t.ch[i] :=
  t.channelsAt_getElem c i

@[simp] theorem Timer.tickedAt_start (t : Timer) (c : Nat) : (t.tickedAt c).start = t.start := rfl
@[simp] theorem Timer.tickedAt_mode (t : Timer) (c : Nat) : (t.tickedAt c).mode = t.mode := rfl
@[simp] theorem Timer.tickedAt_snap (t : Timer) (c : Nat) : (t.tickedAt c).snap = c := rfl

/-- A tick keeps the control register of every channel. -/
theorem Timer.tickedAt_control (t : Timer) (c : Nat) (i : Fin 5) : ((t.tickedAt c).ch[i]).control = (t.ch[i]).control := by
  rw [Timer.tickedAt_getElem]
  exact (iterate_subtick_keeps ..).1

/-- The sub-ticks due up to a later cycle value are those due up to an earlier one and those due from there (R63). -/
theorem Timer.subticksDue_add {t : Timer} {c1 c2 : Nat} (h1 : t.snap ≤ c1) (h2 : c1 ≤ c2) (i : Fin 5) :
    t.subticksDue c2 i = t.subticksDue c1 i + (t.tickedAt c1).subticksDue c2 i := by
  simp only [Timer.subticksDue, Timer.tickedAt_control, Timer.tickedAt_start, Timer.tickedAt_mode, Timer.tickedAt_snap]
  by_cases hruns : t.start.getLsbD i.val = true ∧ t.mode.getLsbD i.val = false ∧ (t.ch[i]).control.getLsbD 2 = false
  · rw [if_pos hruns, if_pos hruns, if_pos hruns]
    have hle1 := Nat.div_le_div_right (c := 2 ^ ((t.ch[i]).control.toNat % 4)) h1
    have hle2 := Nat.div_le_div_right (c := 2 ^ ((t.ch[i]).control.toNat % 4)) h2
    omega
  · rw [if_neg hruns, if_neg hruns, if_neg hruns]

/-- A channel over two ticks is the channel over the later one alone, and so are its events. -/
theorem Timer.tickChannel_add {t : Timer} {c1 c2 : Nat} (h1 : t.snap ≤ c1) (h2 : c1 ≤ c2) (i : Fin 5) :
    t.tickChannel c2 i = (((t.tickedAt c1).tickChannel c2 i).1, (t.tickChannel c1 i).2 ++ ((t.tickedAt c1).tickChannel c2 i).2) := by
  simp only [Timer.tickChannel_eq_subticks, Timer.tickedAt_getElem]
  rw [Timer.subticksDue_add h1 h2, subticks_add]

/-- Two ticks leave the timer that the later one alone leaves. -/
theorem Timer.tickedAt_tickedAt {t : Timer} {c1 c2 : Nat} (h1 : t.snap ≤ c1) (h2 : c1 ≤ c2) :
    (t.tickedAt c1).tickedAt c2 = t.tickedAt c2 := by
  have hchannels : (t.tickedAt c1).channelsAt c2 = t.channelsAt c2 := by
    simp only [Timer.channelsAt, Timer.tickChannel_add h1 h2]
  rw [Timer.tickedAt, hchannels]
  rfl

/-- Settles O27: the timers are equal, and the events of each channel are those of its sub-ticks, which add up. -/
theorem ticksCompose : Obligations.TicksCompose := by
  intro c1 c2 s h1 h2
  refine ⟨_, _, _, exec_tickTmr_eq h1, exec_tickTmr_eq h2, exec_tickTmr_eq (h1.trans h2), Timer.tickedAt_tickedAt h1 h2, rfl, rfl,
    fun i => ?_⟩
  simp only [List.filter_append, filter_tickEvents, List.append_assoc]
  rw [Timer.tickChannel_add h1 h2]

/-! ### The statements about one tick -/

/-- No sub-tick is due at the snapshot (R63). -/
theorem Timer.subticksDue_snap (t : Timer) (i : Fin 5) : t.subticksDue t.snap i = 0 := by
  simp [Timer.subticksDue]

/-- A channel with no sub-tick due is left alone (R71). -/
theorem Timer.tickChannel_of_none_due {t : Timer} {c : Nat} {i : Fin 5} (h : t.subticksDue c i = 0) :
    t.tickChannel c i = (t.ch[i], []) := by
  rw [Timer.tickChannel_eq_subticks, h]
  rfl

/-- A tick at the snapshot leaves the timer as it is. -/
theorem Timer.tickedAt_self (t : Timer) : t.tickedAt t.snap = t := by
  have hchannels : t.channelsAt t.snap = t.ch :=
    Vector.ext fun i hi => by
      have hchannel := t.channelsAt_getElem t.snap ⟨i, hi⟩
      rwa [t.subticksDue_snap] at hchannel
  rw [Timer.tickedAt, hchannels]

/-- Settles O23: at the snapshot no channel has a sub-tick due. -/
theorem timerTickAtTheSnapshotDoesNothing : Obligations.TimerTickAtTheSnapshotDoesNothing := by
  intro s
  have hevents : (channelOrder.flatMap fun i => (s.timer.tickChannel s.timer.snap i).2) = [] :=
    List.flatMap_eq_nil_iff.mpr fun i _ => by rw [Timer.tickChannel_of_none_due (s.timer.subticksDue_snap i)]
  rw [exec_tickTmr_eq le_rfl, Timer.tickedAt_self, hevents, List.append_nil]

/-- Settles O24: the channel goes through its sub-ticks due, each of which adds one to the counter. -/
theorem counterRunsFreeWithoutClear : Obligations.CounterRunsFreeWithoutClear := by
  intro c s i h hmode
  refine ⟨_, exec_tickTmr_eq h, ?_⟩
  rw [Timer.tickedAt_getElem]
  exact iterate_subtick_counter_free _ hmode

/-- Under clear on A a period of compareA + 1 sub-ticks from 0 leads to 0 again, with one interrupt of A (R65, R68). -/
theorem subticks_period {ch : Channel} (hmode : ch.control.toNat / 32 % 4 = 1) (hzero : ch.counter = 0) (hie : ch.ie.getLsbD 0 = true)
    (i : Fin 5) :
    (Channel.subtick^[ch.compareA.toNat + 1] ch).counter = 0 ∧
    (Channel.subticks i (ch.compareA.toNat + 1) ch).2.count (.irq (24 + 4 * i.val)) = 1 := by
  have hB : ch.control.toNat / 32 % 4 = 2 → ch.compareA.toNat ≤ ch.compareB.toNat := by omega
  have hmatch := counter_eq_compareA hzero hB
  refine ⟨?_, ?_⟩
  · obtain ⟨hcontrol, -, -, -⟩ := iterate_subtick_keeps ch.compareA.toNat ch
    apply BitVec.eq_of_toNat_eq
    rw [Function.iterate_succ_apply', Channel.subtick_counter, Channel.nextCounter_toNat, hcontrol, if_pos (.inl ⟨hmatch, hmode⟩)]
    rfl
  · have hbefore : (Channel.subticks i ch.compareA.toNat ch).2.count (.irq (24 + 4 * i.val)) = 0 := by
      rw [subticks_eq, List.count_flatMap]
      refine List.sum_eq_zero fun k hk => ?_
      obtain ⟨n, hn, rfl⟩ := List.mem_map.mp hk
      have hne := counter_ne_compareA_of_lt hzero hB (List.mem_range.mp hn)
      exact (count_irqA_eventsOf ..).trans (if_neg fun hboth => hne hboth.1)
    obtain ⟨-, hkeepsIe, -, -⟩ := iterate_subtick_keeps ch.compareA.toNat ch
    rw [subticks_succ_events, List.count_append, hbefore, count_irqA_eventsOf, if_pos ⟨hmatch, by rw [hkeepsIe, hie]⟩]

/-- `m` periods from 0 lead to 0 again, with `m` interrupts of A. -/
theorem subticks_periods (m : Nat) {ch : Channel} (hmode : ch.control.toNat / 32 % 4 = 1) (hzero : ch.counter = 0)
    (hie : ch.ie.getLsbD 0 = true) (i : Fin 5) :
    (Channel.subtick^[m * (ch.compareA.toNat + 1)] ch).counter = 0 ∧
    (Channel.subticks i (m * (ch.compareA.toNat + 1)) ch).2.count (.irq (24 + 4 * i.val)) = m := by
  induction m generalizing ch with
  | zero =>
    rw [Nat.zero_mul]
    exact ⟨hzero, rfl⟩
  | succ m ih =>
    obtain ⟨hcontrol, hkeepsIe, hcompareA, -⟩ := iterate_subtick_keeps (ch.compareA.toNat + 1) ch
    obtain ⟨hperiod, hone⟩ := subticks_period hmode hzero hie i
    obtain ⟨hcounter, hcount⟩ := ih (hcontrol ▸ hmode) hperiod (hkeepsIe ▸ hie)
    rw [hcompareA] at hcounter hcount
    rw [Nat.succ_mul, Nat.add_comm]
    refine ⟨?_, ?_⟩
    · rwa [Nat.add_comm, Function.iterate_add_apply]
    · rw [subticks_add, List.count_append, hone, hcount, Nat.add_comm]

/-- Settles O25: the interrupts of A in a tick are those of the channel's own sub-ticks, which are `m` periods. -/
theorem clearOnAHasPeriodCompareAPlusOne : Obligations.ClearOnAHasPeriodCompareAPlusOne := by
  intro c m s i h hmode hzero hie hdue
  obtain ⟨hcounter, hcount⟩ := subticks_periods m hmode hzero hie i
  rw [← hdue] at hcounter hcount
  refine ⟨_, _, exec_tickTmr_eq h, ?_, rfl, ?_⟩
  · rwa [Timer.tickedAt_getElem]
  · have hown : (Event.irq (24 + 4 * i.val)).ofChannel i = true := (Event.ofChannel_iff i _).mpr ⟨_, rfl, .inl rfl⟩
    rw [← List.count_filter hown, filter_tickEvents, Timer.tickChannel_eq_subticks, hcount]

/-- With only A enabled, compareA + 1 sub-ticks from 0 raise the interrupt of A once, at the last of them. -/
theorem subticks_events_of_only_A {ch : Channel} (hzero : ch.counter = 0)
    (hB : ch.control.toNat / 32 % 4 = 2 → ch.compareA.toNat ≤ ch.compareB.toNat) (hie : ch.ie.toNat % 8 = 1) (i : Fin 5) :
    (Channel.subticks i (ch.compareA.toNat + 1) ch).2 = [.irq (24 + 4 * i.val)] := by
  have hie' : ∀ n, (Channel.subtick^[n] ch).ie.toNat % 8 = 1 := fun n => by
    obtain ⟨-, hkeepsIe, -, -⟩ := iterate_subtick_keeps n ch
    rw [hkeepsIe, hie]
  have hbefore : (Channel.subticks i ch.compareA.toNat ch).2 = [] := by
    rw [subticks_eq]
    refine List.flatMap_eq_nil_iff.mpr fun n hn => ?_
    exact (eventsOf_of_only_A (hie' n) i).trans (if_neg (counter_ne_compareA_of_lt hzero hB (List.mem_range.mp hn)))
  rw [subticks_succ_events, hbefore, List.nil_append, eventsOf_of_only_A (hie' _), if_pos (counter_eq_compareA hzero hB)]

/-- When no other channel has its start bit set, the events of a tick are those of the one channel. -/
theorem tickEvents_of_single {t : Timer} {i : Fin 5} (h : ∀ j : Fin 5, j ≠ i → t.start.getLsbD j.val = false) (c : Nat) :
    (channelOrder.flatMap fun j => (t.tickChannel c j).2) = (t.tickChannel c i).2 := by
  rw [← filter_tickEvents t c i]
  refine (List.filter_eq_self.mpr fun e he => ?_).symm
  obtain ⟨j, -, hj⟩ := List.mem_flatMap.mp he
  by_cases hji : j = i
  · exact hji ▸ ofChannel_of_mem_tickChannel hj
  · have hdue : t.subticksDue c j = 0 := by simp [Timer.subticksDue, h j hji]
    rw [Timer.tickChannel_of_none_due hdue] at hj
    cases hj

/-- Settles O26: the events are those of the one channel, which has compareA + 1 sub-ticks due from counter 0. -/
theorem compareMatchAFiresOnce : Obligations.CompareMatchAFiresOnce := by
  intro c s i h hsingle hzero hie hB hdue
  refine ⟨_, exec_tickTmr_eq h, congrArg (s.trace ++ ·) ?_⟩
  rw [tickEvents_of_single hsingle, Timer.tickChannel_eq_subticks, hdue]
  exact subticks_events_of_only_A hzero hB hie i

end Sys2Proof.Machine
end

section
/-! PROOFS. The step on the decoded operation, the written-out words, the writes of the global registers, and the constructed machine
(70_reset_and_hazards.md section 1). -/

namespace Sys2Proof.Machine

/-- Settles O4: the three cases of a step are lemmas of their own. -/
theorem stepPerformsDecodedOperation : Obligations.StepPerformsDecodedOperation :=
  fun _ => ⟨step_of_ops_nil, fun _ _ hops => ⟨fun _ => step_of_decode_ok hops, fun _ => step_of_decode_error hops⟩⟩

/-- Settles O5: seventeen words, each decoded by evaluation. -/
theorem writtenOutWordsDecode : Obligations.WrittenOutWordsDecode := by
  unfold Obligations.WrittenOutWordsDecode
  decide

/-- Settles O11: the write row of each global register (R77, R79, R81, R83). -/
theorem globalWrites : Obligations.GlobalWrites :=
  ⟨timerWriteRow .tstr, timerWriteRow .tsnc, timerWriteRow .tmdr, timerWriteRow .tfcr⟩

/-- The constructed instance at index `k` is that of the entry at `k`. -/
theorem State.resetWith_getElem?_sci (p : Params) (scratch : Vector Byte 64) (raw : Nat → Vector Byte 8) (k : Nat) :
    (State.resetWith p scratch raw).sci[k]? = (p.sci[k]?).map fun q => Sci.resetWith p q.irqOffset (raw k) := by
  simp only [State.resetWith, List.getElem?_map, List.getElem?_zipIdx, Option.map_map, Nat.zero_add]
  rfl

/-- Every constructed instance is a constructed one of some offset and raw contents. -/
theorem exists_of_mem_resetWith_sci {p : Params} {scratch : Vector Byte 64} {raw : Nat → Vector Byte 8} {x : Sci}
    (hx : x ∈ (State.resetWith p scratch raw).sci) : ∃ o bytes, x = Sci.resetWith p o bytes := by
  obtain ⟨q, -, rfl⟩ := List.mem_map.mp hx
  exact ⟨_, _, rfl⟩

/-- The machine constructed with legal parameters is sound. -/
theorem State.resetWith_sound {p : Params} (hp : p.legal) (scratch : Vector Byte 64) (raw : Nat → Vector Byte 8) :
    (State.resetWith p scratch raw).Sound where
  legal := hp
  offsets :=
    calc (State.resetWith p scratch raw).sci.map Sci.o
        = (p.sci.zipIdx.map Prod.fst).map SciParams.irqOffset := by
          simp only [State.resetWith, List.map_map]
          rfl
      _ = p.sci.map SciParams.irqOffset := by rw [List.zipIdx_map_fst]
  countdown x hx := by
    obtain ⟨o, bytes, rfl⟩ := exists_of_mem_resetWith_sci hx
    exact le_rfl
  snap := le_rfl
  last x hx := by
    obtain ⟨o, bytes, rfl⟩ := exists_of_mem_resetWith_sci hx
    exact le_rfl

/-- The model's own parameters are legal. -/
theorem config_params_legal : Config.params.legal := by
  decide

/-- Settles O46: a constructed machine is sound, and the reset state is one. -/
theorem resetIsSound : Obligations.ResetIsSound :=
  ⟨fun _ scratch raw hp => State.resetWith_sound hp scratch raw, config_params_legal, State.resetWith_sound config_params_legal ..⟩

/-- A constructed channel does not run: its start bit is 0 (R11, R22). -/
theorem Timer.resetWith_runs (p : Params) (scratch : Vector Byte 64) (i : Fin 5) : (Timer.resetWith p scratch).runs i = false := by
  simp [Timer.runs]

/-- Settles O47: the timer and every instance are constructed from the parameters and the contents drawn. -/
theorem constructedState : Obligations.ConstructedState := by
  intro p scratch raw
  refine ⟨rfl, rfl, rfl, rfl, rfl, rfl, fun i => ⟨Timer.resetWith_ch p scratch i, Timer.resetWith_runs p scratch i⟩, ?_,
    fun k q hq => ?_, rfl, rfl⟩
  · simp [State.resetWith]
  · rw [State.resetWith_getElem?_sci, hq]
    rfl

end Sys2Proof.Machine
end
